-- ==== Sys2Proof/Word.lean ====
section
/-! DEFINITION. The words that software and partners see as bits: bytes on the links, 16-bit event sets and
patterns, the 144 bits of the route chain. Everything else in the model is a count, a record or a list. -/

namespace Sys2Proof

/-- One byte on a link (Table 12-1). -/
abbrev Byte := BitVec 8

/-- An event set, an event mask or a captured set: 16 bits (chapter 12, after Table 12-2). -/
abbrev EventSet := BitVec 16

/-- A generator's pattern: bit k is half-cycle k (R132, Table 12-4). -/
abbrev Pattern := BitVec 16

/-- What the route chain holds: 48 coil codes of three bits, coil c's code in bits 3c+2 to 3c
(Table 5-3: coil 47's code is shifted first, so it stands highest). -/
abbrev ChainWord := BitVec 144

end Sys2Proof
end

