-- ==== Sys2Proof/Syntax.lean ====
section
/-! DEFINITION. The 58 commands of the block, one constructor per row of spec/opcode_table.json, with their
operands. A request row names the link it is taken from: its parameters are in the frame that stands at the
front of that link's input queue (R161), put there by FRAME_ARRIVAL or by the bytes of BYTE_RECEIVED. -/

namespace Sys2Proof

/-- The two mains phases; L1 feeds half A and board A, L2 half B and board B (Table 0-4). -/
inductive Phase | l1 | l2
deriving DecidableEq, Repr

/-- The two generator boards, and the two halves of the surface. -/
inductive Board | a | b
deriving DecidableEq, Repr

/-- The two links whose partners make requests (Table 0-1). -/
inductive Partner | panel | remote
deriving DecidableEq, Repr

/-- The four links (Table 0-1). -/
inductive Link | panel | remote | genA | genB
deriving DecidableEq, Repr

/-- The request kinds of Table 10-3. -/
inductive Request
  | hello | readStatus | readPans | readCoils | readGenerators | readEvents | clearEvents | setEventEnable
  | readTable | readSettings | setLevel | allOff | setRemotePermit | pause | resume | activate | deactivate
  | softReset | surveyStart | surveySuspend | surveyResume | surveyAbort | writeShowroomRow | writeSetting
  | writeLevelTable | storeSettings | setExclusion | lockExclusion
deriving DecidableEq, Repr

/-- A command: one row of the table of operations and events. -/
inductive Instr
  /-- ZERO_CROSS_EDGE: an edge on ZC1 or ZC2, `wait` microseconds after the command before it. -/
  | zeroCrossEdge (ph : Phase) (wait : Nat)
  /-- EDGE_TIMER_EXPIRY -/
  | edgeTimerExpiry (ph : Phase)
  /-- FREE_FRAME_EXPIRY -/
  | freeFrameExpiry
  /-- TRACKING_TIMER_EXPIRY -/
  | trackingTimerExpiry
  /-- POWER_ON -/
  | powerOn
  /-- RESET_LINE -/
  | resetLine
  /-- RESET_END -/
  | resetEnd
  /-- SOFT_RESET_START -/
  | softResetStart
  /-- FRAME_ARRIVAL: a frame whose CRC matched completes on a link. -/
  | frameArrival (link : Link) (kind tag : Byte) (payload : List Byte)
  /-- BYTE_GAP_TIMEOUT -/
  | byteGapTimeout (link : Link)
  /-- LINK_PRESENCE_EXPIRY -/
  | linkPresenceExpiry (p : Partner)
  /-- BOARD_PRESENCE_EXPIRY -/
  | boardPresenceExpiry (bd : Board)
  /-- SEND_FRAME -/
  | sendFrame (p : Partner)
  /-- UNKNOWN_KIND -/
  | unknownKind (p : Partner)
  /-- HELLO, from the panel or the remote. -/
  | hello (p : Partner)
  /-- READ_STATUS -/
  | readStatus (p : Partner)
  /-- READ_PANS -/
  | readPans (p : Partner)
  /-- READ_COILS -/
  | readCoils (p : Partner)
  /-- READ_GENERATORS -/
  | readGenerators (p : Partner)
  /-- READ_EVENTS -/
  | readEvents (p : Partner)
  /-- CLEAR_EVENTS -/
  | clearEvents (p : Partner)
  /-- SET_EVENT_ENABLE -/
  | setEventEnable (p : Partner)
  /-- READ_TABLE -/
  | readTable (p : Partner)
  /-- READ_SETTINGS -/
  | readSettings (p : Partner)
  /-- SET_LEVEL -/
  | setLevel (p : Partner)
  /-- ALL_OFF -/
  | allOff (p : Partner)
  /-- SET_REMOTE_PERMIT -/
  | setRemotePermit (p : Partner)
  /-- PAUSE -/
  | pause (p : Partner)
  /-- RESUME -/
  | resume (p : Partner)
  /-- ACTIVATE -/
  | activate (p : Partner)
  /-- DEACTIVATE -/
  | deactivate (p : Partner)
  /-- SOFT_RESET -/
  | softReset (p : Partner)
  /-- SURVEY_START -/
  | surveyStart (p : Partner)
  /-- SURVEY_SUSPEND -/
  | surveySuspend (p : Partner)
  /-- SURVEY_RESUME -/
  | surveyResume (p : Partner)
  /-- SURVEY_ABORT -/
  | surveyAbort (p : Partner)
  /-- WRITE_SHOWROOM_ROW -/
  | writeShowroomRow (p : Partner)
  /-- WRITE_SETTING -/
  | writeSetting (p : Partner)
  /-- WRITE_LEVEL_TABLE -/
  | writeLevelTable (p : Partner)
  /-- STORE_SETTINGS -/
  | storeSettings (p : Partner)
  /-- SET_EXCLUSION -/
  | setExclusion (p : Partner)
  /-- LOCK_EXCLUSION -/
  | lockExclusion (p : Partner)
  /-- BOARD_HELLO: a hello is taken from a board's input queue. -/
  | boardHello (bd : Board)
  /-- REPORT: a Report frame is taken from a board's input queue. -/
  | report (bd : Board)
  /-- STOP_CONFIRM: a Stop Confirm is taken from a board's input queue. -/
  | stopConfirm (bd : Board)
  /-- STOP_TIMER_EXPIRY -/
  | stopTimerExpiry (g : Fin 8)
  /-- LINE_DOWN_TIMER_EXPIRY -/
  | lineDownTimerExpiry (bd : Board)
  /-- RETRY_TIMER_EXPIRY -/
  | retryTimerExpiry (g : Fin 8)
  /-- CHAIN_TRANSFER_COMPLETE: the transfer completes; `readback` is what came back on ROUTE_RET, the first
  bit returned standing highest. -/
  | chainTransferComplete (readback : ChainWord)
  /-- SETTLE_TIMER_EXPIRY -/
  | settleTimerExpiry
  /-- RECALL_EXPIRY: of the entry at place `i` of the recall list, the front being 0. -/
  | recallExpiry (i : Nat)
  /-- BOOST_EXPIRY: of the pan with this number. -/
  | boostExpiry (pan : Nat)
  /-- PAUSE_TIMER_EXPIRY -/
  | pauseTimerExpiry
  /-- AUTO_OFF_EXPIRY -/
  | autoOffExpiry
  /-- START_TIMER_EXPIRY -/
  | startTimerExpiry
  /-- SUSPEND_TIMER_EXPIRY -/
  | suspendTimerExpiry
  /-- STORE_COMPLETE -/
  | storeComplete
  /-- BYTE_RECEIVED: a byte arrives on a link. -/
  | byteReceived (link : Link) (byte : Byte)
deriving DecidableEq, Repr

end Sys2Proof
end

