-- ==== Sys2Proof/Config.lean ====
section
/-! DEFINITION. What the manual leaves to either order: free values without a body, applied to the counter
`State.choices`. Nothing can be proved about their values, so a claim holds whichever way they fall. -/

namespace Sys2Proof

/-- R152: in showroom mode "the intake of each frame start (R30) and the closing of the frame may be taken in
either order", and "either way each frame holds one intake": the order is one for a survey. True: the closing is
taken first. DESIGN CHOICE: a free value (log 11). -/
opaque Config.closingBeforeIntake : Nat → Bool

/-- R6, R9 and R116 name no order between the leaving of ACTIVE and the frame start that one loss of L1 sync
brings about; R116 allows either. True: the leaving is taken first. DESIGN CHOICE: a free value (log 12). -/
opaque Config.leaveBeforeFrame : Nat → Bool

end Sys2Proof
end

