-- ==== Sys2Proof/Machine/State.lean ====
section
/-! DEFINITION. Everything the spec gives the part, as plain data, and the machine right after reset.
A timer is the time on the clock `now` (microseconds) at which it expires; none while it is stopped. -/

namespace Sys2Proof.Machine

/-- A timer: stopped, or the time at which it expires. -/
abbrev Timer := Option Nat

/-- Table 1-1. -/
inductive Sync | absent | acquiring | valid
deriving DecidableEq, Repr

/-- Table 1-5. -/
inductive BudgetCause | none | noSync | noVoltage | stale | voltageRange
deriving DecidableEq, Repr

/-- Table 1-3. -/
inductive FrameState | free | handover | synced
deriving DecidableEq, Repr

/-- A phase record (Table 1-7), with the previous edge and the edge timer of R1 and R2. -/
structure PhaseRec where
  sync       : Sync
  validCount : Nat
  outCount   : Nat
  halfPeriod : Nat
  prevEdge   : Option Nat
  edgeTimer  : Timer
  voltage    : Option Nat
  reportAge  : Nat
  limit      : Nat
  budget     : Nat
  cause      : BudgetCause
  planned    : Nat
deriving DecidableEq, Repr

/-- The frame record (1.3). -/
structure FrameRec where
  state     : FrameState
  index     : Nat
  freeTimer : Timer
  trackTimer : Timer
deriving DecidableEq, Repr

/-- The Mains Timer's state. -/
structure Mains where
  l1    : PhaseRec
  l2    : PhaseRec
  frame : FrameRec
deriving DecidableEq, Repr

/-- The cover class of a coil (2.4): NONE, PARTIAL, FULL. -/
inductive Cover | none | partly | full
deriving DecidableEq, Repr

/-- Table 2-5, in the order of Table 12-10's codes. -/
inductive DriveView | free | held | routed | stale | excluded
deriving DecidableEq, Repr

/-- A coil record (Table 2-2); its id and half are given by its place in `State.coils`.
`temp` none is NO_READING; a generator is named by its index 0 to 7. -/
structure Coil where
  excluded : Bool
  window   : List Nat
  average  : Option Nat
  baseline : Nat
  cover    : Nat
  cls      : Cover
  temp     : Option Nat
  hot      : Bool
  pan      : Option Nat
  desired  : Option Nat
  latched  : Option Nat
deriving DecidableEq, Repr

/-- Table 3-2. -/
inductive PanState | forming | placed | heating | missing
deriving DecidableEq, Repr

/-- Where a pan's level came from (Table 3-1). -/
inductive LevelSource | panel | remote | recalled
deriving DecidableEq, Repr

/-- A pan record (Table 3-1). `boost` is the boost remaining in seconds and `boostCounted` the microseconds
counted of its present second (R68); 1000000 there with one second remaining is a boost whose expiry is due. -/
structure Pan where
  number        : Nat
  state         : PanState
  footprint     : List Nat
  prevFootprint : List Nat
  row           : Nat
  col           : Nat
  lastRow       : Nat
  lastCol       : Nat
  level         : Nat
  source        : LevelSource
  boost         : Option Nat
  boostCounted  : Nat
  request       : Nat
  cap           : Nat
  grant         : Nat
  delivered     : Nat
  effective     : Nat
  limited       : Bool
  gens          : List Nat
  starved       : Bool
  recalled      : Bool
deriving DecidableEq, Repr

/-- A recall entry (Table 3-4); its timer runs to `liftTime` plus the recall window (R52). -/
structure RecallEntry where
  level    : Nat
  boost    : Option Nat
  size     : Nat
  liftTime : Nat
deriving DecidableEq, Repr

/-- The remote permit (4.3). -/
inductive Permit | off | reduceOnly | adjust
deriving DecidableEq, Repr

/-- The Level Unit's state (Table 4-1); the levels are in the pan records. -/
structure Levels where
  demand     : List Nat
  pause      : Bool
  pauseTimer : Timer
  permit     : Permit
  autoOff    : Timer
deriving DecidableEq, Repr

/-- Table 5-2. -/
inductive Stage | ready | stopWait | shifting | settling | halted
deriving DecidableEq, Repr

/-- The one all-open shift of a HALT (R91): none due, waiting for both lines to settle, in the chain, latched. -/
inductive HaltShift | none | waiting | shifting | done
deriving DecidableEq, Repr

/-- The routing-operation record (chapter 5); the images are in the coil records.
`target` gives each coil a generator or none; it is empty while there is no operation. -/
structure Route where
  stage       : Stage
  target      : List (Option Nat)
  changed     : List Nat
  waitSet     : List Nat
  settleTimer : Timer
  compare     : Bool
  haltShift   : HaltShift
deriving DecidableEq, Repr

/-- Table 6-4. -/
inductive GenState | idle | stopping | routing | armed | running | faulted | lost
deriving DecidableEq, Repr

/-- A generator's fault (Table 6-3). -/
inductive GenFault | none | overcurrent | bridgeHot | noLoad | supply | stuck
deriving DecidableEq, Repr

/-- A generator's retry timer: stopped, running toward a time, or expired (R106, R107). -/
inductive RetryTimer | stopped | running (until_ : Nat) | expired
deriving DecidableEq, Repr

/-- A generator record (Table 6-3), with the Share Calculator's fields of Table 7-1. -/
structure Gen where
  state       : GenState
  pan         : Option Nat
  coils       : List Nat
  fault       : GenFault
  retries     : Nat
  retryTimer  : RetryTimer
  stopPending : Bool
  stopTimer   : Timer
  unconfirmed : Bool
  inOperation : Bool
  fMin        : Option Nat
  pFull       : Option Nat
  pFullFreq   : Option Nat
  ordered     : Nat
  share       : Nat
  slots       : Nat
  residue     : Nat
  pattern     : Pattern
deriving DecidableEq, Repr

/-- What a board report says of one generator, as limited by Table 6-2. -/
structure GenReport where
  driving   : Bool
  fault     : GenFault
  fMin      : Option Nat
  pFull     : Option Nat
  pFullFreq : Option Nat
deriving DecidableEq, Repr

/-- A board report, as limited by Table 6-2 (6.2): 24 samples, 24 temperatures, the voltage (0 for no
measurement) and four generator blocks. -/
structure BoardReport where
  samples : List Nat
  temps   : List (Option Nat)
  voltage : Nat
  gens    : List GenReport
deriving DecidableEq, Repr

/-- A board record (Table 6-1); its link state and presence timer are in its link record.
`held` is the held part 0 of a report: its tag and its 24 samples (R180).
`freeFaults` marks a leaving of ACTIVE that waits for this line to settle (R111). -/
structure BoardRec where
  line       : Bool
  lineDown   : Timer
  settled    : Bool
  stuck      : Bool
  lastReport : Option BoardReport
  held       : Option (Byte × List Nat)
  freeFaults : Bool
deriving DecidableEq, Repr

/-- The allocation record of one phase (R117). -/
structure PhaseAlloc where
  budget    : Nat
  granted   : Nat
  remaining : Nat
  planned   : Nat
  removed   : Nat
deriving DecidableEq, Repr

/-- The allocation record (R117). -/
structure Alloc where
  l1 : PhaseAlloc
  l2 : PhaseAlloc
deriving DecidableEq, Repr

/-- The device mode (Table 8-1). -/
inductive Mode | start | standby | active | survey | halt
deriving DecidableEq, Repr

/-- The halt cause (Table 8-1). -/
inductive HaltCause | none | routeReadback | driveAfterStop
deriving DecidableEq, Repr

/-- The reset causes (R147). -/
inductive ResetCause | powerOn | resetLine | softReset
deriving DecidableEq, Repr

/-- The Mode Controller's state (Table 8-1): the start record is `startCause` and `defaulted`, the retained
record `wasHalted` and `lastHalt`. -/
structure Ctl where
  mode       : Mode
  startTimer : Timer
  haltCause  : HaltCause
  startCause : ResetCause
  defaulted  : Bool
  wasHalted  : Bool
  lastHalt   : HaltCause
deriving DecidableEq, Repr

/-- A reset in progress: its cause, and whether the mode was HALT when it began (R149). -/
structure Resetting where
  cause  : ResetCause
  halted : Bool
deriving DecidableEq, Repr

/-- Table 9-1. -/
inductive SurveyState | idle | running | suspended
deriving DecidableEq, Repr

/-- The suspend cause (Table 9-1). -/
inductive SuspendCause | placement | request
deriving DecidableEq, Repr

/-- The last outcome (Table 9-1). -/
inductive SurveyOutcome | none | completed | abortedRequest | abortedTimeout | abortedBoard | abandoned
deriving DecidableEq, Repr

/-- The Survey Controller's state (Table 9-1). `exceeded`: a sample of this frame exceeded the clear
threshold (R153). -/
structure Survey where
  state    : SurveyState
  cause    : Option SuspendCause
  length   : Nat
  count    : Nat
  sums     : List Nat
  samples  : List (Option Nat)
  opened   : Bool
  exceeded : Bool
  clear    : Nat
  timer    : Timer
  last     : SurveyOutcome
deriving DecidableEq, Repr

/-- A link's presence (Table 10-1). -/
inductive LinkState | absent | present | late | lost
deriving DecidableEq, Repr

/-- The receive state of a link (R160): HUNTING, or the bytes taken since the sync byte. -/
inductive Rx | hunting | assembling (bytes : List Byte)
deriving DecidableEq, Repr

/-- A checked frame in an input queue. `returned` marks a board's hello that made the board return at its
arrival and "has no further effect when it is taken from the queue" (R94). -/
structure Frame where
  kind     : Byte
  tag      : Byte
  payload  : List Byte
  returned : Bool := false
deriving DecidableEq, Repr

/-- A link record (Table 10-1), the fields all four links have. -/
structure LinkRec where
  state    : LinkState
  presence : Timer
  rx       : Rx
  gapTimer : Timer
  queue    : List Frame
deriving DecidableEq, Repr

/-- A frame produced for a partner (R163): a response, the response of a Soft Reset, or a notice, whose
contents are fixed when its sending begins (R167). -/
inductive OutFrame
  | response (tag : Byte) (payload : List Byte)
  | resetResponse (tag : Byte)
  | notice
deriving DecidableEq, Repr

/-- A partner's link record (Table 10-1): `produced` holds the frames whose sending has not begun, oldest
first, and `sending` the frame being sent. -/
structure PartnerRec where
  link     : LinkRec
  captured : EventSet
  enabled  : EventSet
  noticePending : Bool
  produced : List OutFrame
  sending  : Option OutFrame
deriving DecidableEq, Repr

/-- The four link records. -/
structure Links where
  panel  : PartnerRec
  remote : PartnerRec
  genA   : LinkRec
  genB   : LinkRec
deriving DecidableEq, Repr

/-- The move filter (R47). -/
inductive MoveFilter | off | any | threshold
deriving DecidableEq, Repr

/-- The working settings (Table 11-1), in the order of its rows; the baselines are in the coil records. -/
structure Settings where
  currentLimit  : Nat
  rating        : Nat
  avgExp        : Nat
  tp            : Nat
  tf            : Nat
  hyst          : Nat
  tWarn         : Nat
  tCut          : Nat
  recallWindow  : Nat
  boostDuration : Nat
  pauseLimit    : Nat
  autoOffTime   : Nat
  settleCode    : Nat
  surveyLength  : Nat
  moveFilter    : MoveFilter
  moveThreshold : Nat
  showroom      : Bool
  levelTable    : List Nat
deriving DecidableEq, Repr

/-- The contents of the stored image: the settings and the 48 baselines (11.1). -/
structure ImageContents where
  settings  : Settings
  baselines : List Nat
deriving DecidableEq, Repr

/-- The stored image and the CRC-16 it holds (R174). -/
structure StoredImage where
  contents : ImageContents
  crc      : BitVec 16
deriving DecidableEq, Repr

/-- A store in flight (R177): the image being written, and the latest time at which it completes. -/
structure Storing where
  contents : ImageContents
  latest   : Nat
deriving DecidableEq, Repr

/-- The Settings Store's state: the working settings, the store in flight while STORING (R177), the stored image,
the exclusion area (R178), and the showroom table (R157). -/
structure Store where
  settings      : Settings
  storing       : Option Storing
  image         : StoredImage
  exclusion     : List Bool
  lock          : Bool
  showroomTable : List Nat
deriving DecidableEq, Repr

/-- What the part puts on its lines: a frame on a link, the 144 bits of a transfer on ROUTE_DATA, the pulse
on ROUTE_LATCH. -/
inductive Output
  | frame (link : Link) (bytes : List Byte)
  | shift (bits : ChainWord)
  | latch
deriving DecidableEq, Repr

/-- The whole part. -/
structure State where
  now       : Nat
  mains     : Mains
  coils     : List Coil
  pans      : List Pan
  recalls   : List RecallEntry
  levels    : Levels
  route     : Route
  boardA    : BoardRec
  boardB    : BoardRec
  gens      : List Gen
  alloc     : Alloc
  ctl       : Ctl
  resetting : Option Resetting
  softReset : Bool
  survey    : Survey
  links     : Links
  store     : Store
  out       : List Output
  choices   : Nat
  pending   : List Instr
deriving DecidableEq, Repr

/-- Why the part could stop: never. Every rule of the spec ends in a state, so no command raises a fault and
this type has no constructor (safe: nothing is cut short). -/
inductive Fault
deriving DecidableEq, Repr

/-- Why a command could be refused. -/
inductive Refusal
  /-- Raised by an arm of `exec` whose command has no meaning yet; no arm is. Safe: the machine stops. -/
  | notModelled (mnemonic : String)
deriving DecidableEq, Repr

/-- A phase record after a reset (R15), with the default current limit. -/
def PhaseRec.initial : PhaseRec :=
  { sync := .absent, validCount := 0, outCount := 0, halfPeriod := 0, prevEdge := none, edgeTimer := none,
    voltage := none, reportAge := 3, limit := 160, budget := 0, cause := .noSync, planned := 0 }

/-- A coil record after a reset (R33), not excluded and with the default baseline. -/
def Coil.initial : Coil :=
  { excluded := false, window := [], average := none, baseline := 64, cover := 0, cls := .none, temp := none,
    hot := false, pan := none, desired := none, latched := none }

/-- A generator record after a reset (R115, R136). -/
def Gen.initial : Gen :=
  { state := .idle, pan := none, coils := [], fault := .none, retries := 0, retryTimer := .stopped,
    stopPending := false, stopTimer := none, unconfirmed := false, inOperation := false, fMin := none,
    pFull := none, pFullFreq := none, ordered := 750, share := 0, slots := 0, residue := 0, pattern := 0 }

/-- A board record from the start of a reset (R115): the line-down timer starts at its end. -/
def BoardRec.initial : BoardRec :=
  { line := false, lineDown := none, settled := false, stuck := false, lastReport := none, held := none,
    freeFaults := false }

/-- A phase's allocation record after a reset (R136). -/
def PhaseAlloc.initial : PhaseAlloc := { budget := 0, granted := 0, remaining := 0, planned := 0, removed := 0 }

/-- The Level Unit after a reset (R75). -/
def Levels.initial : Levels := { demand := [], pause := false, pauseTimer := none, permit := .off, autoOff := none }

/-- The Route Controller after a reset (R93). -/
def Route.initial : Route :=
  { stage := .ready, target := [], changed := [], waitSet := [], settleTimer := none, compare := false,
    haltShift := .none }

/-- The Survey Controller after a reset (Table 9-1, R159). -/
def Survey.initial : Survey :=
  { state := .idle, cause := none, length := 0, count := 0, sums := List.replicate 48 0,
    samples := List.replicate 48 none, opened := false, exceeded := false, clear := 0, timer := none, last := .none }

/-- A link record after a reset (R173). -/
def LinkRec.initial : LinkRec := { state := .absent, presence := none, rx := .hunting, gapTimer := none, queue := [] }

/-- A partner's link record after a reset (R173): STARTED captured, all 16 events enabled. -/
def PartnerRec.initial : PartnerRec :=
  { link := LinkRec.initial, captured := 1, enabled := 0xFFFF, noticePending := false, produced := [], sending := none }

/-- The default settings (Table 11-1, Table 4-2). -/
def Settings.default : Settings :=
  { currentLimit := 160, rating := 600, avgExp := 2, tp := 120, tf := 400, hyst := 30, tWarn := 180, tCut := 220,
    recallWindow := 10, boostDuration := 600, pauseLimit := 600, autoOffTime := 120, settleCode := 11,
    surveyLength := 16, moveFilter := .threshold, moveThreshold := 10, showroom := false,
    levelTable := [90, 150, 220, 300, 400, 520, 660, 820, 1000, 1250, 1550, 1900, 2300, 3000] }

/-- The machine right after reset: the end of a POWER_ON reset of a new part, whose stored image fails its
check so that the defaults load (log 8), with the first free frame started (R15). -/
def State.reset : State :=
  { now := 0
    mains :=
      { l1 := PhaseRec.initial, l2 := PhaseRec.initial,
        frame := { state := .free, index := 0, freeTimer := some 160000, trackTimer := some 80000 } }
    coils := List.replicate 48 Coil.initial
    pans := []
    recalls := []
    levels := Levels.initial
    route := Route.initial
    boardA := { BoardRec.initial with lineDown := some 5000 }
    boardB := { BoardRec.initial with lineDown := some 5000 }
    gens := List.replicate 8 Gen.initial
    alloc := { l1 := PhaseAlloc.initial, l2 := PhaseAlloc.initial }
    ctl :=
      { mode := .start, startTimer := some 3000000, haltCause := .none, startCause := .powerOn, defaulted := true,
        wasHalted := false, lastHalt := .none }
    resetting := none
    softReset := false
    survey := Survey.initial
    links :=
      { panel := PartnerRec.initial, remote := PartnerRec.initial, genA := LinkRec.initial, genB := LinkRec.initial }
    store :=
      { settings := Settings.default, storing := none,
        image := { contents := { settings := Settings.default, baselines := List.replicate 48 64 }, crc := 0 },
        exclusion := List.replicate 48 false, lock := false, showroomTable := List.replicate 48 0 }
    out := []
    choices := 0
    pending := [] }

end Sys2Proof.Machine
end

