-- ==== Sys2Proof/Machine/Ops.lean ====
section
/-! DEFINITION. The operations every block shares: the geometry of the surface, reading and updating one record
of the state, the passing of time, and the enable lines. -/

namespace Sys2Proof.Machine

/-! ### Geometry (2.1, Table 0-4) -/

/-- The coil ids, 0 to 47. -/
def coilIds : List Nat := List.range 48

/-- The generator indices, 0 to 7. -/
def genIds : List Nat := List.range 8

/-- A coil's row: its id divided by 12. -/
def rowOf (c : Nat) : Nat := c / 12

/-- A coil's column: the remainder of its id by 12. -/
def colOf (c : Nat) : Nat := c % 12

/-- Half A holds columns 0 to 5, half B columns 6 to 11. -/
def halfOf (c : Nat) : Board := if colOf c < 6 then .a else .b

/-- The board of a generator: A0 to A3 are indices 0 to 3, B0 to B3 indices 4 to 7. -/
def boardOf (g : Nat) : Board := if g < 4 then .a else .b

/-- A generator's position within its board, 0 to 3. -/
def positionOf (g : Nat) : Nat := g % 4

/-- The generators of a board, in ascending index. -/
def gensOf : Board → List Nat
  | .a => [0, 1, 2, 3]
  | .b => [4, 5, 6, 7]

/-- The 24 coils of a half, in ascending id. -/
def coilsOf (bd : Board) : List Nat := coilIds.filter (fun c => halfOf c = bd)

/-- A coil's place among the 24 coils of its half, in ascending id. -/
def halfIndex (c : Nat) : Nat := 6 * rowOf c + colOf c % 6

/-- Two coils are adjacent when they share an edge (2.1). -/
def adjacent (c d : Nat) : Bool :=
  (rowOf c = rowOf d && (colOf c = colOf d + 1 || colOf d = colOf c + 1)) ||
  (colOf c = colOf d && (rowOf c = rowOf d + 1 || rowOf d = rowOf c + 1))

/-- The distance between two numbers. -/
def absDiff (x y : Nat) : Nat := (x - y) + (y - x)

/-- A value limited to a range (Conventions). -/
def clamp (x lo hi : Nat) : Nat := max lo (min x hi)

/-- Insert a number into an ascending list, once. -/
def insertSorted (n : Nat) : List Nat → List Nat
  | [] => [n]
  | m :: rest => if n < m then n :: m :: rest else if n = m then m :: rest else m :: insertSorted n rest

/-- Grow a set of members of `among` by those linked to one of its members, `fuel` times. -/
def closure (among : List Nat) (linked : Nat → Nat → Bool) : Nat → List Nat → List Nat
  | 0, set => set
  | fuel + 1, set =>
    let next := among.filter (fun c => set.contains c || set.any (fun d => linked c d))
    if next.length = set.length then set else closure among linked fuel next

/-! ### Reading records -/

/-- A coil record. -/
def State.coil (s : State) (c : Nat) : Coil := (s.coils[c]?).getD Coil.initial

/-- A generator record. -/
def State.gen (s : State) (g : Nat) : Gen := (s.gens[g]?).getD Gen.initial

/-- A phase record. -/
def State.phase (s : State) : Phase → PhaseRec
  | .l1 => s.mains.l1
  | .l2 => s.mains.l2

/-- A board record. -/
def State.board (s : State) : Board → BoardRec
  | .a => s.boardA
  | .b => s.boardB

/-- A partner's link record. -/
def State.partner (s : State) : Partner → PartnerRec
  | .panel => s.links.panel
  | .remote => s.links.remote

/-- Any link's record. -/
def State.link (s : State) : Link → LinkRec
  | .panel => s.links.panel.link
  | .remote => s.links.remote.link
  | .genA => s.links.genA
  | .genB => s.links.genB

/-- The link of a partner. -/
def partnerLink : Partner → Link
  | .panel => .panel
  | .remote => .remote

/-- The link of a board. -/
def boardLinkId : Board → Link
  | .a => .genA
  | .b => .genB

/-- The phase that feeds a board. -/
def boardPhase : Board → Phase
  | .a => .l1
  | .b => .l2

/-- The link state of a board (6.1: it is the presence state of the board's link). -/
def State.boardLink (s : State) (bd : Board) : LinkState := (s.link (boardLinkId bd)).state

/-- The pan record with a number, if the table holds it. -/
def findPan (pans : List Pan) (n : Nat) : Option Pan := pans.find? (fun p => p.number = n)

/-- A link in use: PRESENT or LATE. -/
def LinkState.up : LinkState → Bool
  | .present => true
  | .late => true
  | .absent => false
  | .lost => false

/-! ### Updating records -/

/-- Rewrite every coil record from its id. -/
def State.mapCoils (f : Nat → Coil → Coil) (s : State) : State :=
  { s with coils := s.coils.zipIdx.map (fun x => f x.2 x.1) }

/-- Rewrite every generator record from its index. -/
def State.mapGens (f : Nat → Gen → Gen) (s : State) : State :=
  { s with gens := s.gens.zipIdx.map (fun x => f x.2 x.1) }

/-- Rewrite one generator record. -/
def State.modGen (g : Nat) (f : Gen → Gen) (s : State) : State :=
  s.mapGens (fun i x => if i = g then f x else x)

/-- Rewrite every pan record. -/
def State.mapPans (f : Pan → Pan) (s : State) : State := { s with pans := s.pans.map f }

/-- Rewrite the pan record with a number. -/
def State.modPan (n : Nat) (f : Pan → Pan) (s : State) : State :=
  s.mapPans (fun p => if p.number = n then f p else p)

/-- Rewrite one phase record. -/
def State.modPhase (ph : Phase) (f : PhaseRec → PhaseRec) (s : State) : State :=
  match ph with
  | .l1 => { s with mains := { s.mains with l1 := f s.mains.l1 } }
  | .l2 => { s with mains := { s.mains with l2 := f s.mains.l2 } }

/-- Rewrite the frame record. -/
def State.modFrame (f : FrameRec → FrameRec) (s : State) : State :=
  { s with mains := { s.mains with frame := f s.mains.frame } }

/-- Rewrite one board record. -/
def State.modBoard (bd : Board) (f : BoardRec → BoardRec) (s : State) : State :=
  match bd with
  | .a => { s with boardA := f s.boardA }
  | .b => { s with boardB := f s.boardB }

/-- Rewrite one partner's link record. -/
def State.modPartner (p : Partner) (f : PartnerRec → PartnerRec) (s : State) : State :=
  match p with
  | .panel => { s with links := { s.links with panel := f s.links.panel } }
  | .remote => { s with links := { s.links with remote := f s.links.remote } }

/-- Rewrite one link's record. -/
def State.modLink (l : Link) (f : LinkRec → LinkRec) (s : State) : State :=
  match l with
  | .panel => { s with links := { s.links with panel := { s.links.panel with link := f s.links.panel.link } } }
  | .remote => { s with links := { s.links with remote := { s.links.remote with link := f s.links.remote.link } } }
  | .genA => { s with links := { s.links with genA := f s.links.genA } }
  | .genB => { s with links := { s.links with genB := f s.links.genB } }

/-- Put something on the part's lines. -/
def State.emit (o : Output) (s : State) : State := { s with out := s.out ++ [o] }

/-! ### Time -/

/-- One millisecond on the clock. -/
def ms : Nat := 1000

/-- One second on the clock. -/
def sec : Nat := 1000000

/-- The edge timer of a phase: 25 ms (1.2). -/
def edgeTime : Nat := 25 * ms
/-- The free-frame timer: 160 ms (R8). -/
def freeFrameTime : Nat := 160 * ms
/-- The tracking timer: 80 ms (R8). -/
def trackingTime : Nat := 80 * ms
/-- The stop-confirm timeout: 40 ms (R100). -/
def stopTime : Nat := 40 * ms
/-- The hardware stop delay: 5 ms (R103). -/
def stopDelay : Nat := 5 * ms
/-- The retry timer: 2 s (R106). -/
def retryTime : Nat := 2 * sec
/-- The START timer: 3 s (R138). -/
def startTime : Nat := 3 * sec
/-- The suspend timer: 300 s (R153). -/
def suspendTime : Nat := 300 * sec
/-- The longest time a store takes: 120 ms (R177). -/
def storeTime : Nat := 120 * ms
/-- The longest gap between the bytes of a frame: 2 ms (R160). -/
def gapTime : Nat := 2 * ms

/-- The presence periods (Table 10-1). -/
def presenceTime : Link → Nat
  | .panel => 1000 * ms
  | .remote => 2000 * ms
  | .genA => 400 * ms
  | .genB => 400 * ms

/-- Whether a pan's boost counts: it is HEATING at boost and the pause flag is clear (R68). -/
def Pan.boostCounts (pause : Bool) (p : Pan) : Bool := p.state = .heating && !pause && p.boost.isSome

/-- The microseconds of counting time a boost has left. -/
def Pan.boostLeft (p : Pan) : Nat := (p.boost.getD 0) * sec - p.boostCounted

/-- R68: `dt` microseconds of counting time. Each full second lowers the boost remaining by one and the fraction
is kept. A boost whose time is over stands at its last second, wholly counted, until its expiry is taken (R69). -/
def Pan.countBoost (dt : Nat) (p : Pan) : Pan :=
  match p.boost with
  | none => p
  | some n =>
    let counted := p.boostCounted + dt
    if n * sec ≤ counted then { p with boost := some 1, boostCounted := sec }
    else { p with boost := some (n - counted / sec), boostCounted := counted % sec }

/-- `dt` microseconds pass: the clock advances and the boosts that count are counted (R68). Every other timer is
held as the time it expires at, so nothing else moves. -/
def State.elapse (dt : Nat) (s : State) : State :=
  { s with
    now := s.now + dt
    pans := s.pans.map (fun p => if p.boostCounts s.levels.pause then p.countBoost dt else p) }

/-- Time passes until `t`, or not at all when `t` has been reached. -/
def State.elapseTo (t : Nat) (s : State) : State := s.elapse (t - s.now)

/-- The taking of a timer's expiry: the time the timer had left has passed and `f` acts. A stopped timer
does not expire, so there nothing happens (log 2). -/
def State.expire (t : Timer) (f : State → State) (s : State) : State :=
  match t with
  | none => s
  | some d => f (s.elapseTo d)

/-- Whether a timer has reached its time. -/
def State.timerDue (s : State) : Timer → Bool
  | none => false
  | some d => d ≤ s.now

/-- The whole seconds a timer has left, 0 when it is stopped (R74, R150, R159). -/
def State.secondsLeft (s : State) : Timer → Nat
  | none => 0
  | some d => (d - s.now) / sec

/-- Nothing but the ends and beginnings of resets is taken while a reset is in progress (R15, R147, R173). -/
def State.unlessReset (f : State → State) (s : State) : State :=
  if s.resetting.isSome then s else f s

/-! ### The enable lines (R105) -/

/-- The four conditions under which a board's enable line is asserted. -/
def State.lineWanted (s : State) (bd : Board) : Bool :=
  s.ctl.mode = .active && !s.store.settings.showroom && (s.boardLink bd).up && !(s.board bd).stuck

/-- R105: the line follows its four conditions. A deassertion starts the line-down timer; an assertion stops it
and makes line settled no (R103), and ends a wait for the line to settle (R111). -/
def State.judgeLine (bd : Board) (s : State) : State :=
  if s.lineWanted bd = (s.board bd).line then s
  else if s.lineWanted bd then
    s.modBoard bd (fun r => { r with line := true, settled := false, lineDown := none, freeFaults := false })
  else
    s.modBoard bd (fun r => { r with line := false, lineDown := some (s.now + stopDelay) })

/-- Both lines are judged, as at a change of the device mode or of the showroom setting. -/
def State.judgeLines (s : State) : State := (s.judgeLine .a).judgeLine .b

/-! ### The auto-off timer (R72) -/

/-- The three conditions under which the auto-off timer runs. -/
def State.autoOffHolds (s : State) : Bool :=
  s.ctl.mode = .active && !s.levels.pause && s.pans.all (fun p => p.level = 0)

/-- R72: the timer starts, at the auto-off time, when its conditions come to hold, goes on running while they
hold, and stops when one of them ceases. -/
def State.judgeAutoOff (s : State) : State :=
  if s.autoOffHolds then
    if s.levels.autoOff.isSome then s
    else { s with levels := { s.levels with autoOff := some (s.now + s.store.settings.autoOffTime * sec) } }
  else { s with levels := { s.levels with autoOff := none } }

/-- Move a number to the front of the demand order, the others keeping their order (R67). -/
def toFront (n : Nat) (order : List Nat) : List Nat := n :: order.filter (· ≠ n)

end Sys2Proof.Machine
end

