-- ==== Sys2Proof/Machine/Flags.lean ====
section
/-! DEFINITION. The event sets of the panel and the remote: the flags the blocks capture (R166, R167), and the
responses and notices the part produces for a partner (R162, R163). -/

namespace Sys2Proof.Machine

/-- The 16 events, in the rows of Table 10-4. -/
inductive Event
  | started | modeChanged | panPlaced | panMoved | panLifted | panRecalled | panLimited | boostEnded
  | coilHot | genFault | phaseFault | linkLate | linkLost | survey | storeDone | halted
deriving DecidableEq, Repr

/-- The bit of an event in a set: row n + 1 of Table 10-4 is bit n. -/
def eventBit : Event → Nat
  | .started => 0
  | .modeChanged => 1
  | .panPlaced => 2
  | .panMoved => 3
  | .panLifted => 4
  | .panRecalled => 5
  | .panLimited => 6
  | .boostEnded => 7
  | .coilHot => 8
  | .genFault => 9
  | .phaseFault => 10
  | .linkLate => 11
  | .linkLost => 12
  | .survey => 13
  | .storeDone => 14
  | .halted => 15

/-- The four events captured whether or not they are enabled (Table 10-4). -/
def alwaysCaptured : Event → Bool
  | .started => true
  | .linkLate => true
  | .linkLost => true
  | .halted => true
  | _ => false

/-- Whether a set holds an event. -/
def holds (set : EventSet) (e : Event) : Bool := set.getLsbD (eventBit e)

/-- A set with an event entered. -/
def withEvent (set : EventSet) (e : Event) : EventSet := set ||| (1#16 <<< eventBit e)

/-- R166, R167 for one link: the event is entered if it is enabled or always captured; an entry that changes the
set on a PRESENT or LATE link with no notice pending produces a notice. -/
def enterEvent (e : Event) (r : PartnerRec) : PartnerRec :=
  if (holds r.enabled e || alwaysCaptured e) && !holds r.captured e then
    if r.link.state.up && !r.noticePending then
      { r with captured := withEvent r.captured e, noticePending := true, produced := r.produced ++ [.notice] }
    else { r with captured := withEvent r.captured e }
  else r

/-- A block captures an event: it is entered into the sets of PANEL and REMOTE in one step (R166). -/
def State.capture (e : Event) (s : State) : State :=
  { s with links := { s.links with panel := enterEvent e s.links.panel, remote := enterEvent e s.links.remote } }

/-- Several captures within one step. -/
def State.captureAll (es : List Event) (s : State) : State := es.foldl (fun t e => t.capture e) s

/-- Put a produced frame into a partner's sending order at a place, if its link is PRESENT or LATE; a response
produced while it is ABSENT or LOST is dropped (R163). -/
def produceAt (place : Nat) (f : OutFrame) (r : PartnerRec) : PartnerRec :=
  if r.link.state.up then { r with produced := r.produced.take place ++ f :: r.produced.drop place } else r

end Sys2Proof.Machine
end

