-- ==== Sys2Proof/Machine/Operands.lean ====
section
/-! DEFINITION. The operands and records as bytes (chapter 12): the fields of a payload, the codes of the
enumerations, the frame envelope with its CRC-8, the CRC-16 of the stored image, and the coding of the route
chain (Table 5-3). -/

namespace Sys2Proof.Machine

/-! ### Bytes and fields -/

/-- A number as one byte. -/
def byteOf (n : Nat) : Byte := BitVec.ofNat 8 n

/-- A number as two bytes, most significant first. -/
def be2 (n : Nat) : List Byte := [byteOf (n / 256), byteOf n]

/-- A number as four bytes, most significant first. -/
def be4 (n : Nat) : List Byte := [byteOf (n / 16777216), byteOf (n / 65536), byteOf (n / 256), byteOf n]

/-- A number as `k` bytes, most significant first. -/
def beBytes : Nat → Nat → List Byte
  | 0, _ => []
  | k + 1, n => byteOf (n / 256 ^ k) :: beBytes k n

/-- The byte of a payload at an offset, as a number. -/
def byteAt (p : List Byte) (i : Nat) : Nat := ((p[i]?).getD 0).toNat

/-- The two-byte number of a payload at an offset, most significant byte first (R181). -/
def numAt (p : List Byte) (i : Nat) : Nat := 256 * byteAt p i + byteAt p (i + 1)

/-- The event set of a payload at an offset (R181: all 16 bits are used). -/
def setAt (p : List Byte) (i : Nat) : EventSet := BitVec.ofNat 16 (numAt p i)

/-- A flag's code: no 0, yes 1. -/
def flag (x : Bool) : Nat := if x then 1 else 0

/-- The number whose bit i is set for each i in a list without repeats. -/
def maskOf (bits : List Nat) : Nat := bits.foldl (fun n i => n + 2 ^ i) 0

/-! ### Checks -/

/-- One bit of a CRC-8 with polynomial x^8 + x^5 + x^4 + 1 (10.1). -/
def crc8Bit (c : BitVec 8) : BitVec 8 := if c.msb then (c <<< 1) ^^^ 0x31#8 else c <<< 1

/-- The CRC-8 of a list of bytes, initial value 0xFF, most significant bit first (10.1). -/
def crc8 (bytes : List Byte) : Byte := bytes.foldl (fun c x => Nat.repeat crc8Bit 8 (c ^^^ x)) 0xFF#8

/-- One bit of a CRC-16 with polynomial 0x1021 (R174). -/
def crc16Bit (c : BitVec 16) : BitVec 16 := if c.msb then (c <<< 1) ^^^ 0x1021#16 else c <<< 1

/-- The CRC-16 of a list of bytes, initial value 0xFFFF, most significant bit first (R174). -/
def crc16 (bytes : List Byte) : BitVec 16 :=
  bytes.foldl (fun (c : BitVec 16) x => Nat.repeat crc16Bit 8 (c ^^^ (x.setWidth 16).shiftLeft 8)) 0xFFFF#16

/-! ### Frames (Tables 12-1 and 12-2) -/

/-- The sync byte. -/
def syncByte : Byte := 0xC5

/-- A frame as it stands on a link (Table 12-1). -/
def frameBytes (kind tag : Byte) (payload : List Byte) : List Byte :=
  let body := [kind, tag, byteOf payload.length] ++ payload
  syncByte :: body ++ [crc8 body]

/-- The kind code of a request (Table 12-2). -/
def requestCode : Request → Byte
  | .hello => 0x01
  | .readStatus => 0x02
  | .readPans => 0x03
  | .readCoils => 0x04
  | .readGenerators => 0x05
  | .readEvents => 0x06
  | .clearEvents => 0x07
  | .setEventEnable => 0x08
  | .readTable => 0x09
  | .readSettings => 0x0A
  | .setLevel => 0x10
  | .allOff => 0x11
  | .setRemotePermit => 0x12
  | .pause => 0x13
  | .resume => 0x14
  | .activate => 0x18
  | .deactivate => 0x19
  | .softReset => 0x1A
  | .surveyStart => 0x20
  | .surveySuspend => 0x21
  | .surveyResume => 0x22
  | .surveyAbort => 0x23
  | .writeShowroomRow => 0x24
  | .writeSetting => 0x28
  | .writeLevelTable => 0x29
  | .storeSettings => 0x2A
  | .setExclusion => 0x2B
  | .lockExclusion => 0x2C

/-- The payload length of a request (Table 12-2). -/
def requestLength : Request → Nat
  | .readStatus => 1
  | .readPans => 1
  | .readCoils => 1
  | .readGenerators => 1
  | .clearEvents => 2
  | .setEventEnable => 2
  | .readTable => 3
  | .readSettings => 1
  | .setLevel => 2
  | .setRemotePermit => 1
  | .writeShowroomRow => 25
  | .writeSetting => 3
  | .writeLevelTable => 28
  | .setExclusion => 1
  | .hello => 0
  | .readEvents => 0
  | .allOff => 0
  | .pause => 0
  | .resume => 0
  | .activate => 0
  | .deactivate => 0
  | .softReset => 0
  | .surveyStart => 0
  | .surveySuspend => 0
  | .surveyResume => 0
  | .surveyAbort => 0
  | .storeSettings => 0
  | .lockExclusion => 0

/-- Whether the remote may make a request (Table 10-3). -/
def requestFromRemote : Request → Bool
  | .hello => true
  | .readStatus => true
  | .readPans => true
  | .readCoils => true
  | .readGenerators => true
  | .readEvents => true
  | .clearEvents => true
  | .setEventEnable => true
  | .readTable => true
  | .setLevel => true
  | .allOff => true
  | .readSettings => false
  | .setRemotePermit => false
  | .pause => false
  | .resume => false
  | .activate => false
  | .deactivate => false
  | .softReset => false
  | .surveyStart => false
  | .surveySuspend => false
  | .surveyResume => false
  | .surveyAbort => false
  | .writeShowroomRow => false
  | .writeSetting => false
  | .writeLevelTable => false
  | .storeSettings => false
  | .setExclusion => false
  | .lockExclusion => false

/-- Every request kind of Table 10-3. -/
def allRequests : List Request :=
  [.hello, .readStatus, .readPans, .readCoils, .readGenerators, .readEvents, .clearEvents, .setEventEnable,
   .readTable, .readSettings, .setLevel, .allOff, .setRemotePermit, .pause, .resume, .activate, .deactivate,
   .softReset, .surveyStart, .surveySuspend, .surveyResume, .surveyAbort, .writeShowroomRow, .writeSetting,
   .writeLevelTable, .storeSettings, .setExclusion, .lockExclusion]

/-- Whether a kind byte is a request kind (R162 test 1). -/
def isRequestKind (kind : Byte) : Bool := allRequests.any (fun r => requestCode r = kind)

/-- Response (Table 12-2). -/
def kindResponse : Byte := 0x40
/-- Notice. -/
def kindNotice : Byte := 0x41
/-- A board's hello; the code is that of a partner's Hello. -/
def kindHello : Byte := 0x01
/-- Report. -/
def kindReport : Byte := 0x50
/-- Stop Confirm. -/
def kindStopConfirm : Byte := 0x51
/-- Drive Order. -/
def kindDriveOrder : Byte := 0x60
/-- Stop Order. -/
def kindStopOrder : Byte := 0x61

/-! ### Enumeration codes (Table 12-10) -/

/-- The outcomes of Table 10-2. -/
inductive Reply
  | accepted | adjusted | notReady | wrongMode | outOfRange | notPermitted | noSuchPan | busy | unknownKind | malformed
deriving DecidableEq, Repr

/-- The code of an outcome. -/
def Reply.code : Reply → Nat
  | .accepted => 0
  | .adjusted => 1
  | .notReady => 2
  | .wrongMode => 3
  | .outOfRange => 4
  | .notPermitted => 5
  | .noSuchPan => 6
  | .busy => 7
  | .unknownKind => 8
  | .malformed => 9

/-- A response's payload: the outcome, then the data (R162). -/
def answer (r : Reply) (data : List Byte) : List Byte := byteOf r.code :: data

/-- The code of a sync state. -/
def Sync.code : Sync → Nat
  | .absent => 0
  | .acquiring => 1
  | .valid => 2

/-- The code of a budget cause. -/
def BudgetCause.code : BudgetCause → Nat
  | .none => 0
  | .noSync => 1
  | .noVoltage => 2
  | .stale => 3
  | .voltageRange => 4

/-- The code of a link state. -/
def LinkState.code : LinkState → Nat
  | .absent => 0
  | .present => 1
  | .late => 2
  | .lost => 3

/-- The code of a cover class. -/
def Cover.code : Cover → Nat
  | .none => 0
  | .partly => 1
  | .full => 2

/-- The code of a drive view. -/
def DriveView.code : DriveView → Nat
  | .free => 0
  | .held => 1
  | .routed => 2
  | .stale => 3
  | .excluded => 4

/-- The code of a pan state. -/
def PanState.code : PanState → Nat
  | .forming => 0
  | .placed => 1
  | .heating => 2
  | .missing => 3

/-- The code of a level source. -/
def LevelSource.code : LevelSource → Nat
  | .panel => 0
  | .remote => 1
  | .recalled => 2

/-- The code of a remote permit. -/
def Permit.code : Permit → Nat
  | .off => 0
  | .reduceOnly => 1
  | .adjust => 2

/-- The code of a move filter. -/
def MoveFilter.code : MoveFilter → Nat
  | .off => 0
  | .any => 1
  | .threshold => 2

/-- The code of a generator state. -/
def GenState.code : GenState → Nat
  | .idle => 0
  | .stopping => 1
  | .routing => 2
  | .armed => 3
  | .running => 4
  | .faulted => 5
  | .lost => 6

/-- The code of a generator fault. -/
def GenFault.code : GenFault → Nat
  | .none => 0
  | .overcurrent => 1
  | .bridgeHot => 2
  | .noLoad => 3
  | .supply => 4
  | .stuck => 5

/-- The code of a routing stage. -/
def Stage.code : Stage → Nat
  | .ready => 0
  | .stopWait => 1
  | .shifting => 2
  | .settling => 3
  | .halted => 4

/-- The code of a device mode. -/
def Mode.code : Mode → Nat
  | .start => 0
  | .standby => 1
  | .active => 2
  | .survey => 3
  | .halt => 4

/-- The code of a halt cause. -/
def HaltCause.code : HaltCause → Nat
  | .none => 0
  | .routeReadback => 1
  | .driveAfterStop => 2

/-- The code of a reset cause. -/
def ResetCause.code : ResetCause → Nat
  | .powerOn => 0
  | .resetLine => 1
  | .softReset => 2

/-- The code of a survey state. -/
def SurveyState.code : SurveyState → Nat
  | .idle => 0
  | .running => 1
  | .suspended => 2

/-- The code of a suspend cause, absent being 0. -/
def suspendCode : Option SuspendCause → Nat
  | none => 0
  | some .placement => 1
  | some .request => 2

/-- The code of a survey's last outcome. -/
def SurveyOutcome.code : SurveyOutcome → Nat
  | .none => 0
  | .completed => 1
  | .abortedRequest => 2
  | .abortedTimeout => 3
  | .abortedBoard => 4
  | .abandoned => 5

/-- The start record byte (12.1): the reset cause in bits 1 to 0, settings defaulted in bit 2. The bits it does
not give are 0 (DESIGN CHOICE, log 41). -/
def Ctl.startByte (c : Ctl) : Byte := byteOf (c.startCause.code + 4 * flag c.defaulted)

/-- The retained record byte (12.1): halted at last reset in bit 0, the last halt cause in bits 2 to 1. The bits
it does not give are 0 (DESIGN CHOICE, log 41). -/
def Ctl.retainedByte (c : Ctl) : Byte := byteOf (flag c.wasHalted + 2 * c.lastHalt.code)

/-! ### The route chain (Table 5-3) -/

/-- A coil's code: 0 open, 1 to 4 the generator's position in the half plus one. -/
def coilCode : Option Nat → Nat
  | none => 0
  | some g => positionOf g + 1

/-- The 144 bits of an image: coil c's code in bits 3c+2 to 3c, coil 47's most significant bit shifted first. -/
def chainWord (image : List (Option Nat)) : ChainWord :=
  BitVec.ofNat 144 (image.foldr (fun g n => coilCode g + 8 * n) 0)

/-! ### The stored image (11.1) -/

/-- The settings in the order of their ids 1 to 17, as numbers (Table 12-3, GENERAL). -/
def Settings.values (s : Settings) : List Nat :=
  [s.currentLimit, s.rating, s.avgExp, s.tp, s.tf, s.hyst, s.tWarn, s.tCut, s.recallWindow, s.boostDuration,
   s.pauseLimit, s.autoOffTime, s.settleCode, s.surveyLength, s.moveFilter.code, s.moveThreshold, flag s.showroom]

/-- The image's contents as bytes, over which its CRC-16 is computed: settings 1 to 17 and the 14 level-table
entries two bytes each, then the 48 baselines. DESIGN CHOICE: the spec gives the image no layout (log 10). -/
def ImageContents.bytes (c : ImageContents) : List Byte :=
  (c.settings.values ++ c.settings.levelTable ++ c.baselines).flatMap be2

end Sys2Proof.Machine
end

