-- ==== Sys2Proof/Machine/Surface.lean ====
section
/-! DEFINITION. The Surface Map (chapter 2): samples, averages, cover classes, hot marks, excluded coils, the
clearing of a silent half, and the drive view. -/

namespace Sys2Proof.Machine

/-- A reading handed to a coil: its sample and its temperature, none being NO_READING. -/
structure Reading where
  sample : Nat
  temp   : Option Nat
deriving DecidableEq, Repr

/-- R17: a sample is limited to 1023. -/
def limitSample (x : Nat) : Nat := min x 1023

/-- R17: the limited sample joins the back of the window, and the oldest value leaves when the window already
held 2^n values. -/
def pushSample (n : Nat) (window : List Nat) (x : Nat) : List Nat :=
  if 2 ^ n ≤ window.length then window.drop 1 ++ [limitSample x] else window ++ [limitSample x]

/-- R18: the mean of the window's values, rounded down. -/
def averageOf (window : List Nat) : Nat := window.sum / window.length

/-- R19: the cover figure, clamp(average − baseline, 0, 1023). -/
def coverFigure (average baseline : Nat) : Nat := min (average - baseline) 1023

/-- R20: the release threshold T_p − H, and 1 where that is below 1. -/
def releaseThreshold (st : Settings) : Nat := max 1 (st.tp - st.hyst)

/-- R20, Table 2-3: the new class from the present class and the cover figure. -/
def classify (st : Settings) (cls : Cover) (c : Nat) : Cover :=
  match cls with
  | .none => if st.tf ≤ c then .full else if st.tp ≤ c then .partly else .none
  | .partly => if st.tf ≤ c then .full else if c < releaseThreshold st then .none else .partly
  | .full => if c < releaseThreshold st then .none else if c < st.tf - st.hyst then .partly else .full

/-- R17 to R20: a coil takes a sample. -/
def takeSample (st : Settings) (x : Nat) (k : Coil) : Coil :=
  let window := pushSample st.avgExp k.window x
  let average := averageOf window
  let cover := coverFigure average k.baseline
  { k with window := window, average := some average, cover := cover, cls := classify st k.cls cover }

/-- R24: the hot mark after a temperature has arrived. -/
def hotAfter (st : Settings) (t : Option Nat) (hot : Bool) : Bool :=
  match t with
  | none => true
  | some v => if st.tCut ≤ v then true else if v < st.tCut - 10 then false else hot

/-- R24: a coil takes a temperature. -/
def takeTemp (st : Settings) (t : Option Nat) (k : Coil) : Coil :=
  { k with temp := t, hot := hotAfter st t k.hot }

/-- R16, R26: a coil takes a reading; an excluded coil is passed over. -/
def takeReading (st : Settings) (r : Reading) (k : Coil) : Coil :=
  if k.excluded then k else takeTemp st r.temp (takeSample st r.sample k)

/-- R25: whether a reading changes a coil's hot mark from no to yes. -/
def becomesHot (st : Settings) (r : Reading) (k : Coil) : Bool :=
  !k.excluded && !k.hot && hotAfter st r.temp k.hot

/-- R22: an emptied window; the cover figure and class are kept. -/
def emptyWindow (k : Coil) : Coil := { k with window := [], average := none }

/-- R22: the windows of all 48 coils are emptied. -/
def State.emptyWindows (s : State) : State := s.mapCoils (fun _ k => emptyWindow k)

/-- R26: the record of an excluded coil. -/
def excludeCoil (k : Coil) : Coil :=
  { k with excluded := true, window := [], average := none, cover := 0, cls := .none, temp := none, hot := false }

/-- R27: at a tracking point the Surface Map takes up the newly set flags of the exclusion area. -/
def State.takeUpExclusions (s : State) : State :=
  s.mapCoils (fun c k => if (s.store.exclusion[c]?).getD false && !k.excluded then excludeCoil k else k)

/-- R28: the state of a coil of a silent half; its hot mark keeps its value. -/
def clearSensing (k : Coil) : Coil :=
  { k with window := [], average := none, cover := 0, cls := .none, temp := none }

/-- R28: every coil of a lost board's half is cleared. -/
def State.clearHalf (bd : Board) (s : State) : State :=
  s.mapCoils (fun c k => if halfOf c = bd then clearSensing k else k)

/-- R23: a completed survey's baselines replace those of the non-excluded coils, and all windows are emptied,
as one intake. -/
def State.takeBaselines (baseline : Nat → Nat) (s : State) : State :=
  s.mapCoils (fun c k => emptyWindow (if k.excluded then k else { k with baseline := baseline c }))

/-- R29: the effect on the coils of a write that turns showroom mode off (true to false) or on. -/
def State.showroomChanged (s : State) : State :=
  let t := s.emptyWindows
  if s.store.settings.showroom then t
  else
    let clearIf := fun (bd : Board) (u : State) => if (s.boardLink bd).up then u else u.clearHalf bd
    clearIf .b (clearIf .a t)

/-- Whether a coil is covered: PARTIAL or FULL (R36). -/
def Cover.covered : Cover → Bool
  | .none => false
  | .partly => true
  | .full => true

/-- R118, R46: a coil's weight by its class. -/
def Cover.weight : Cover → Nat
  | .none => 0
  | .partly => 1
  | .full => 2

/-- R31: whether a coil's latched generator serves a pan in whose footprint the coil lies. -/
def State.routed (s : State) (c : Nat) : Bool :=
  match (s.coil c).latched with
  | none => false
  | some g =>
    match (s.gen g).pan with
    | none => false
    | some n =>
      match findPan s.pans n with
      | none => false
      | some p => p.footprint.contains c

/-- R31, Table 2-5: a coil's drive view. -/
def State.driveView (s : State) (c : Nat) : DriveView :=
  let k := s.coil c
  if k.excluded then .excluded
  else if s.routed c then .routed
  else if k.latched.isSome then .stale
  else if k.pan.isSome then .held
  else .free

end Sys2Proof.Machine
end

