-- ==== Sys2Proof/Machine/Route.lean ====
section
/-! DEFINITION. The Route Controller's routing operation (5.3 to 5.7) with the Board Supervisor's stop orders
(R100): the images, the start of an operation, the stopped reports, the completion of a transfer, the settle and
the one all-open shift of a HALT. -/

namespace Sys2Proof.Machine

/-- The desired image, coil by coil. -/
def State.desiredImage (s : State) : List (Option Nat) := coilIds.map (fun c => (s.coil c).desired)

/-- The latched image, coil by coil. -/
def State.latchedImage (s : State) : List (Option Nat) := coilIds.map (fun c => (s.coil c).latched)

/-- A generator's coil set in an image: the coils that name it, in ascending id (5.1). -/
def coilSet (image : List (Option Nat)) (g : Nat) : List Nat :=
  coilIds.filter (fun c => (image[c]?).getD none = some g)

/-- R101, R107, R103: a stopped generator's state, by whether its latched coil set is empty. -/
def restState (x : Gen) : GenState := if x.coils.isEmpty then .idle else .armed

/-- R83: the desired image becomes all open, and every pan's generator list, every generator's pan and every
starved mark are cleared. -/
def State.openImage (s : State) : State :=
  { s with
    coils := s.coils.map (fun k => { k with desired := none })
    pans := s.pans.map (fun p => { p with gens := [], starved := false })
    gens := s.gens.map (fun x => { x with pan := none }) }

/-- R85: a changed generator counts as stopped at the start of an operation. -/
def State.countsStopped (s : State) (g : Nat) : Bool :=
  (s.gen g).state = .idle || (s.gen g).state = .armed || (s.board (boardOf g)).settled

/-- R100: the generators of a board that its stop order names: those of the wait set that are RUNNING or FAULTED
and have no stop pending. A board that is ABSENT or LOST gets no stop order. -/
def State.stopNames (s : State) (wait : List Nat) (bd : Board) : List Nat :=
  if (s.boardLink bd).up then
    (gensOf bd).filter (fun g => wait.contains g && ((s.gen g).state = .running || (s.gen g).state = .faulted)
      && !(s.gen g).stopPending)
  else []

/-- R100: a named generator: a RUNNING one becomes STOPPING, and the stop timer starts. -/
def orderStop (now : Nat) (x : Gen) : Gen :=
  { x with
    state := if x.state = .running then .stopping else x.state
    stopPending := true
    stopTimer := some (now + stopTime) }

/-- R100: the stop order of one board, sent on its link when it names a generator. -/
def State.sendStopOrder (wait : List Nat) (bd : Board) (s : State) : State :=
  let named := s.stopNames wait bd
  if named.isEmpty then s
  else
    (s.mapGens (fun g x => if named.contains g then orderStop s.now x else x)).emit
      (.frame (boardLinkId bd) (frameBytes kindStopOrder 0 [byteOf (maskOf (named.map positionOf))]))

/-- R87: the wait set is empty and the chain transfer begins; the 144 bits go out on ROUTE_DATA. -/
def State.beginTransfer (s : State) : State :=
  { s with route := { s.route with stage := .shifting } }.emit (.shift (chainWord s.route.target))

/-- R84, R85: when the stage is READY and the desired image differs from the latched one, a routing operation
starts. Of the stop orders of R100, which no rule orders between the boards, board A's goes out first (DESIGN CHOICE,
log 39). -/
def State.tryOperation (s : State) : State :=
  let target := s.desiredImage
  if s.route.stage = .ready && target ≠ s.latchedImage then
    let changed := genIds.filter (fun g => coilSet target g ≠ coilSet s.latchedImage g)
    let wait := changed.filter (fun g => !s.countsStopped g)
    let t := (s.mapGens (fun g x => if changed.contains g then { x with inOperation := true } else x))
    let t := { t with route := { t.route with stage := .stopWait, target := target, changed := changed, waitSet := wait } }
    let t := (t.sendStopOrder wait .a).sendStopOrder wait .b
    if wait.isEmpty then t.beginTransfer else t
  else s

/-- R83 with the test of R84, as at a leaving of ACTIVE for STANDBY and at a tracking point outside ACTIVE. -/
def State.openAndRoute (s : State) : State := s.openImage.tryOperation

/-- R86: generators are reported stopped; they leave the wait set, and when it becomes empty the transfer begins. -/
def State.reportStopped (stopped : List Nat) (s : State) : State :=
  if s.route.stage = .stopWait then
    let wait := s.route.waitSet.filter (fun g => !stopped.contains g)
    let t := { s with route := { s.route with waitSet := wait } }
    if wait.isEmpty then t.beginTransfer else t
  else s

/-- R91: in HALT, once both lines have been deasserted for the hardware stop delay, the all-open image is shifted. -/
def State.tryHaltShift (s : State) : State :=
  if s.route.haltShift = .waiting && s.boardA.settled && s.boardB.settled then
    { s with route := { s.route with haltShift := .shifting } }.emit (.shift 0)
  else s

/-- R91: the Route Controller's part in the entry to HALT: the operation in flight is abandoned, the marks are
cleared, the desired image is all open and the one all-open shift is due. A STOPPING generator of an operation
abandoned with its board's line already settled keeps its state (DESIGN CHOICE, log 37). -/
def State.routeHalt (s : State) : State :=
  if s.route.stage = .halted then s
  else
    let t := s.openImage
    let u : State :=
      { t with
        gens := t.gens.map (fun x => { x with inOperation := false })
        route := { t.route with stage := .halted, target := [], changed := [], waitSet := [], settleTimer := none,
                                haltShift := .waiting } }
    u.tryHaltShift

/-- R87: an image is latched: every coil's latched generator and every generator's coils list follow it. -/
def State.latch (image : List (Option Nat)) (s : State) : State :=
  ((s.mapCoils (fun c k => { k with latched := (image[c]?).getD none })).mapGens
    (fun g x => { x with coils := coilSet image g })).emit .latch

/-- R87: every changed generator that is neither FAULTED nor LOST becomes ROUTING. -/
def State.routeChanged (s : State) : State :=
  s.mapGens (fun g x =>
    if s.route.changed.contains g && x.state ≠ .faulted && x.state ≠ .lost then { x with state := .routing } else x)

/-- R89: the settle interval, (relay settle code + 1) ms. -/
def settleInterval (st : Settings) : Nat := (st.settleCode + 1) * ms

/-- R89: the stage becomes SETTLING and the settle timer starts. -/
def State.beginSettle (s : State) : State :=
  { s with route := { s.route with stage := .settling, settleTimer := some (s.now + settleInterval s.store.settings) } }

/-- R89: the end of the settle: ROUTING generators become ARMED or IDLE, the marks clear, the operation ends and
the test of R84 is made at once. -/
def State.settleExpired (s : State) : State :=
  let t := s.mapGens (fun g x =>
    if s.route.changed.contains g then
      { x with state := if x.state = .routing then restState x else x.state, inOperation := false }
    else x)
  let u : State :=
    { t with route := { t.route with stage := .ready, target := [], changed := [], waitSet := [], settleTimer := none } }
  u.tryOperation

/-- SETTLE_TIMER_EXPIRY (R89). -/
def execSettleTimerExpiry (s : State) : Host.Outcome State Fault Refusal :=
  .next (s.unlessReset (fun t => t.expire t.route.settleTimer State.settleExpired))

end Sys2Proof.Machine
end

