-- ==== Sys2Proof/Machine/Mode.lean ====
section
/-! DEFINITION. The Mode Controller's steps (chapter 8): a change of mode, the leaving of START, the leaving of
ACTIVE with its effect on every block (R143), and the entry to HALT (R145). -/

namespace Sys2Proof.Machine

/-- R137: the mode changes, and MODE_CHANGED is captured once. -/
def State.setMode (m : Mode) (s : State) : State :=
  ({ s with ctl := { s.ctl with mode := m } } : State).capture .modeChanged

/-- R138: the condition to leave START: L1 is VALID and neither board's link is ABSENT. -/
def State.startDone (s : State) : Bool :=
  s.ctl.mode = .start && s.mains.l1.sync = .valid && s.boardLink .a ≠ .absent && s.boardLink .b ≠ .absent

/-- The START timer stops. -/
def State.stopStartTimer (s : State) : State := { s with ctl := { s.ctl with startTimer := none } }

/-- R138: tested at every change of the L1 sync state and of a board's link state: when the condition holds the
START timer stops and the mode becomes STANDBY. -/
def State.judgeStart (s : State) : State :=
  if s.startDone then s.stopStartTimer.setMode .standby else s

/-- A pan at level 0 with no boost; a HEATING pan becomes PLACED (R66, R71, R73). -/
def Pan.switchOff (p : Pan) : Pan :=
  { p with
    level := 0
    boost := none
    boostCounted := 0
    state := if p.state = .heating then .placed else p.state }

/-- R73, R53: the Level Unit's and the recall list's part in the leaving of ACTIVE. -/
def State.leaveLevels (s : State) : State :=
  { s with
    pans := s.pans.map Pan.switchOff
    recalls := []
    levels := { s.levels with pause := false, pauseTimer := none, permit := .off, autoOff := none } }

/-- R111: a generator's part in the leaving of ACTIVE: its retries become 0 and its retry timer stops. -/
def Gen.leave (x : Gen) : Gen := { x with retries := 0, retryTimer := .stopped }

/-- R111: a FAULTED generator that is not unconfirmed becomes IDLE with fault NONE. -/
def Gen.freeFault (x : Gen) : Gen :=
  if x.state = .faulted && !x.unconfirmed then { x with state := .idle, fault := .none } else x

/-- R111: a board whose line was already settled has its FAULTED generators made IDLE at once; on any other the
settle of the line does so. -/
def State.leaveBoard (bd : Board) (s : State) : State :=
  if (s.board bd).settled then s.mapGens (fun g x => if boardOf g = bd then x.freeFault else x)
  else s.modBoard bd (fun r => { r with freeFaults := true })

/-- R111, R105: the Board Supervisor's part in the leaving of ACTIVE. -/
def State.leaveBoards (s : State) : State :=
  let t := (s.mapGens (fun _ x => x.leave)).judgeLines
  (t.leaveBoard .a).leaveBoard .b

/-- R143: the leaving of ACTIVE for `target`, as one step. For STANDBY the all-open image then starts a routing
operation unless one is in flight (R83, R84); in HALT no operation starts (R91, log 13). -/
def State.leaveActive (target : Mode) (s : State) : State :=
  let t := (s.setMode target).leaveLevels.openImage.leaveBoards
  if target = .standby then t.tryOperation else t

/-- R142: a cause of leaving ACTIVE for STANDBY; outside ACTIVE it leaves nothing. -/
def State.leaveForStandby (s : State) : State :=
  if s.ctl.mode = .active then s.leaveActive .standby else s

/-- R155: a survey that ends without completing, HALT's abandonment included: the sums, frame samples and frame count
are dropped, the timer stops, the state becomes IDLE. The clear count and N, which no rule names here, keep their values
(DEDUCED, log 23). -/
def Survey.drop (outcome : SurveyOutcome) (v : Survey) : Survey :=
  { v with
    state := .idle, cause := none, count := 0, sums := List.replicate 48 0, samples := List.replicate 48 none,
    timer := none, last := outcome }

/-- R145 step 3: the survey in progress is abandoned. -/
def State.abandonSurvey (s : State) : State :=
  if s.survey.state = .idle then s else { s with survey := s.survey.drop .abandoned }

/-- R145 steps 1 to 4: the mode becomes HALT, from whichever mode the device was in. -/
def State.modeToHalt (s : State) : State :=
  match s.ctl.mode with
  | .active => s.leaveActive .halt
  | .start => s.stopStartTimer.setMode .halt
  | .survey => s.abandonSurvey.setMode .halt
  | .standby => s.setMode .halt
  | .halt => s

/-- R144, R145: a HALT is reported. In HALT the report is not acted on; in any other mode it enters HALT. -/
def State.enterHalt (cause : HaltCause) (s : State) : State :=
  if s.ctl.mode = .halt then s
  else
    let t := s.modeToHalt
    let u : State := { t with ctl := { t.ctl with haltCause := cause, lastHalt := cause } }
    (u.capture .halted).judgeLines.routeHalt

/-- CHAIN_TRANSFER_COMPLETE in SHIFTING (R87, R88): the target is latched, the readback is judged against the
image latched before when the compare flag is set, and the flag is set. -/
def State.transferComplete (readback : ChainWord) (s : State) : State :=
  let before := chainWord s.latchedImage
  let t := (s.latch s.route.target).routeChanged
  let u : State := { t with route := { t.route with compare := true } }
  if s.route.compare && readback ≠ before then u.enterHalt .routeReadback else u.beginSettle

/-- CHAIN_TRANSFER_COMPLETE of HALT's all-open shift (R91): the image and the coil sets are empty; nothing is
compared and nothing settles. -/
def State.haltShiftComplete (s : State) : State :=
  let t := s.latch (coilIds.map (fun _ => none))
  { t with route := { t.route with compare := true, haltShift := .done } }

/-- CHAIN_TRANSFER_COMPLETE (R87, R88, R91): without a transfer in the chain nothing completes. -/
def execChainTransferComplete (readback : ChainWord) (s : State) : Host.Outcome State Fault Refusal :=
  .next (s.unlessReset (fun t =>
    if t.route.stage = .shifting then t.transferComplete readback
    else if t.route.haltShift = .shifting then t.haltShiftComplete
    else t))

/-- AUTO_OFF_EXPIRY (R72, R142): the device leaves ACTIVE for STANDBY. -/
def execAutoOffExpiry (s : State) : Host.Outcome State Fault Refusal :=
  .next (s.unlessReset (fun t => t.expire t.levels.autoOff State.leaveForStandby))

end Sys2Proof.Machine
end

