-- ==== Sys2Proof/Machine/Survey.lean ====
section
/-! DEFINITION. The Survey Controller (chapter 9): the samples handed to it, suspension, the closing of a frame,
completion and abort; and the Surface Map's intakes, which hand it those samples (R16, R30). -/

namespace Sys2Proof.Machine

/-- R153: the suspension of a running survey. -/
def Survey.suspend (cause : SuspendCause) (now : Nat) (v : Survey) : Survey :=
  { v with
    state := .suspended, cause := some cause, timer := some (now + suspendTime), opened := false,
    samples := List.replicate 48 none, exceeded := false, clear := 0 }

/-- R153: the clear threshold over a baseline: baseline + (T_p − H), and baseline + 1 where T_p − H is below 1. -/
def clearThreshold (st : Settings) (baseline : Nat) : Nat := baseline + max 1 (st.tp - st.hyst)

/-- R152, R153: a limited sample of a non-excluded coil is handed to the Survey Controller. -/
def Survey.takeSample (st : Settings) (now c x baseline : Nat) (v : Survey) : Survey :=
  match v.state with
  | .idle => v
  | .running =>
    if baseline + st.tp < x then v.suspend .placement now
    else { v with samples := v.samples.set c (some x) }
  | .suspended =>
    { v with
      samples := v.samples.set c (some x)
      exceeded := v.exceeded || (clearThreshold st baseline < x) }

/-- R16, R25, R17: one intake of the Surface Map, taken whole. `reading` gives a coil's reading, or none for a
coil that is not part of the intake. Samples reach the Survey Controller in ascending coil id. -/
def State.intake (reading : Nat → Option Reading) (s : State) : State :=
  let st := s.store.settings
  let hot := coilIds.filter (fun c =>
    match reading c with
    | none => false
    | some r => becomesHot st r (s.coil c))
  let survey := coilIds.foldl (fun v c =>
    match reading c with
    | none => v
    | some r =>
      if (s.coil c).excluded then v
      else v.takeSample st s.now c (limitSample r.sample) (s.coil c).baseline) s.survey
  let t := s.mapCoils (fun c k =>
    match reading c with
    | none => k
    | some r => takeReading st r k)
  ({ t with survey := survey } : State).captureAll (hot.map (fun _ => .coilHot))

/-- R30: in showroom mode every coil's reading is its entry of the showroom table, at 25 °C. -/
def State.showroomReading (s : State) (c : Nat) : Option Reading :=
  some { sample := (s.store.showroomTable[c]?).getD 0, temp := some 25 }

/-- R30: the showroom intake of a frame start. -/
def State.showroomIntake (s : State) : State := s.intake s.showroomReading

/-- The coils that are not excluded. -/
def State.liveCoils (s : State) : List Nat := coilIds.filter (fun c => !(s.coil c).excluded)

/-- R152, R153: whether every non-excluded coil holds a frame sample. -/
def State.frameWhole (s : State) : Bool :=
  s.liveCoils.all (fun c => ((s.survey.samples[c]?).getD none).isSome)

/-- R152 step 1: the closing frame is counted. -/
def State.countFrame (s : State) : State :=
  if s.survey.opened && s.frameWhole then
    { s with
      survey := { s.survey with
        count := s.survey.count + 1
        sums := coilIds.map (fun c =>
          (s.survey.sums[c]?).getD 0 + (if (s.coil c).excluded then 0 else ((s.survey.samples[c]?).getD none).getD 0)) } }
  else s

/-- R152 step 3: the survey completes. The frame count, the clear count and N, which the step does not name, keep their
values, the frame count N (DEDUCED, log 23). -/
def State.completeSurvey (s : State) : State :=
  let v := s.survey
  let t := s.takeBaselines (fun c => (v.sums[c]?).getD 0 / v.length)
  let u : State :=
    { t with survey := { v with state := .idle, last := .completed, sums := List.replicate 48 0,
                                samples := List.replicate 48 none } }
  (u.capture .survey).setMode .standby

/-- R152 step 4: a new frame opens. -/
def Survey.openFrame (v : Survey) : Survey :=
  { v with samples := List.replicate 48 none, opened := true, exceeded := false }

/-- R152: a frame start taken while the survey is RUNNING. -/
def State.closeRunning (s : State) : State :=
  let t := s.countFrame
  if t.survey.count = t.survey.length then t.completeSurvey else { t with survey := t.survey.openFrame }

/-- R153: whether the frame that ends is clear. -/
def State.frameClear (s : State) : Bool := s.survey.opened && s.frameWhole && !s.survey.exceeded

/-- R153: a frame start taken while the survey is SUSPENDED; at the second clear frame a PLACEMENT suspension
ends. -/
def State.closeSuspended (s : State) : State :=
  let clear := if s.frameClear then min 2 (s.survey.clear + 1) else 0
  let v := { s.survey.openFrame with clear := clear }
  if clear = 2 && v.cause = some .placement then
    { s with survey := { v with state := .running, cause := none, timer := none } }
  else { s with survey := v }

/-- R152, R153: the Survey Controller's part in a frame start. -/
def State.surveyClose (s : State) : State :=
  match s.survey.state with
  | .idle => s
  | .running => s.closeRunning
  | .suspended => s.closeSuspended

/-- R155: the survey, if one is RUNNING or SUSPENDED, is aborted: SURVEY is captured and the mode becomes STANDBY. -/
def State.abortSurvey (outcome : SurveyOutcome) (s : State) : State :=
  if s.survey.state = .idle then s
  else (({ s with survey := s.survey.drop outcome } : State).capture .survey).setMode .standby

/-- SUSPEND_TIMER_EXPIRY (R155). -/
def execSuspendTimerExpiry (s : State) : Host.Outcome State Fault Refusal :=
  .next (s.unlessReset (fun t => t.expire t.survey.timer (State.abortSurvey .abortedTimeout)))

end Sys2Proof.Machine
end

