-- ==== Sys2Proof/Machine/Boards.lean ====
section
/-! DEFINITION. The Board Supervisor (chapter 6): presence, loss and return of a board, its hellos, reports and
stop confirms, the stop, line-down and retry timers. -/

namespace Sys2Proof.Machine

/-! ### Presence (R94, R96, R110) -/

/-- R28, R10: the phase voltage of a board becomes absent, with report age 3. -/
def PhaseRec.loseVoltage (r : PhaseRec) : PhaseRec := { r with voltage := none, reportAge := 3 }

/-- R110 step 3: a generator of a board that becomes LOST. -/
def Gen.lose (x : Gen) : Gen :=
  { x with state := .lost, fault := .none, retryTimer := .stopped, fMin := none, pFull := none, pFullFreq := none,
           residue := 0 }

/-- R110: a board becomes LOST, with every effect of the loss; LINK_LOST is captured. Its queued frames and its
held part 0 are dropped (R161, R180), and a survey outside showroom mode is aborted (R155). -/
def State.boardLost (bd : Board) (s : State) : State :=
  let t := s.modLink (boardLinkId bd) (fun r => { r with state := .lost, presence := none, queue := [] })
  let t := (t.modBoard bd (fun r => { r with held := none })).judgeLine bd
  let t := t.mapGens (fun g x => if boardOf g = bd then x.lose else x)
  let t := (t.clearHalf bd).modPhase (boardPhase bd) PhaseRec.loseVoltage
  let t := t.capture .linkLost
  if t.store.settings.showroom then t else t.abortSurvey .abortedBoard

/-- R96 step 3: a LOST generator of a board that returns. -/
def Gen.comeBack (x : Gen) : Gen :=
  if x.state = .lost then { x with state := restState x, fault := .none } else x

/-- A link becomes PRESENT and its presence timer starts at its period. -/
def LinkRec.makePresent (l : Link) (now : Nat) (r : LinkRec) : LinkRec :=
  { r with state := .present, presence := some (now + presenceTime l) }

/-- R96: a board returns. -/
def State.boardReturns (bd : Board) (s : State) : State :=
  let t := s.modLink (boardLinkId bd) (LinkRec.makePresent (boardLinkId bd) s.now)
  let t := t.modBoard bd (fun r => { r with stuck := false })
  let t := t.mapGens (fun g x => if boardOf g = bd then x.comeBack else x)
  (t.judgeLine bd).judgeStart

/-- A valid frame is entered at the back of a link's input queue. -/
def State.enqueue (l : Link) (f : Frame) (s : State) : State :=
  s.modLink l (fun r => { r with queue := r.queue ++ [f] })

/-- The kinds a board sends (6.1). -/
def boardSends (kind : Byte) : Bool := kind = kindHello || kind = kindReport || kind = kindStopConfirm

/-- R95, R180: a board's hello of length 1 whose all-stopped flag is set. One of another length neither makes an
ABSENT or LOST board return nor confirms a stop (DEDUCED, log 36). -/
def allStopped (f : Frame) : Bool := f.kind = kindHello && f.payload.length = 1 && byteAt f.payload 0 % 2 = 1

/-- R94: the presence effect of a valid frame at its arrival on a board link, and its place in the queue. -/
def State.boardArrival (bd : Board) (f : Frame) (s : State) : State :=
  if (s.boardLink bd).up then
    let t := (s.modLink (boardLinkId bd) (LinkRec.makePresent (boardLinkId bd) s.now)).judgeStart
    if boardSends f.kind then t.enqueue (boardLinkId bd) f else t
  else if allStopped f then (s.boardReturns bd).enqueue (boardLinkId bd) { f with returned := true }
  else s

/-- R94: the expiry of a board's presence timer: PRESENT becomes LATE, LATE becomes LOST. -/
def State.boardExpiry (bd : Board) (s : State) : State :=
  match s.boardLink bd with
  | .present =>
    ((s.modLink (boardLinkId bd) (fun r =>
      { r with state := .late, presence := some (s.now + presenceTime (boardLinkId bd)) })).capture .linkLate).judgeStart
  | .late => (s.boardLost bd).judgeStart
  | .absent => s
  | .lost => s

/-- BOARD_PRESENCE_EXPIRY (R94). -/
def execBoardPresenceExpiry (bd : Board) (s : State) : Host.Outcome State Fault Refusal :=
  .next (s.unlessReset (fun t => t.expire (t.link (boardLinkId bd)).presence (State.boardExpiry bd)))

/-- R138: the START timer expires: each board still ABSENT becomes LOST, then the mode becomes STANDBY. -/
def State.startExpired (s : State) : State :=
  let lose := fun (bd : Board) (t : State) => if t.boardLink bd = .absent then t.boardLost bd else t
  (lose .b (lose .a s.stopStartTimer)).setMode .standby

/-- START_TIMER_EXPIRY (R138). -/
def execStartTimerExpiry (s : State) : Host.Outcome State Fault Refusal :=
  .next (s.unlessReset (fun t => t.expire t.ctl.startTimer State.startExpired))

/-! ### Stop confirms (R101) and their timers (R102, R103) -/

/-- R101: a generator that a stop confirm names. One with a stop pending is confirmed; STOPPING without the
in-operation mark it becomes ARMED or IDLE. -/
def confirmStop (x : Gen) : Gen :=
  if x.stopPending then
    { x with
      stopPending := false, stopTimer := none, unconfirmed := false
      state := if x.state = .stopping && !x.inOperation then restState x else x.state }
  else x

/-- R101: a stop confirm names generators of a board; one that names all four also clears the stuck flag. -/
def State.stopConfirmed (bd : Board) (named : List Nat) (s : State) : State :=
  let stopped := named.filter (fun g => (s.gen g).stopPending)
  let t := (s.mapGens (fun g x => if named.contains g then confirmStop x else x)).reportStopped stopped
  if (gensOf bd).all (fun g => named.contains g) && (t.board bd).stuck then
    (t.modBoard bd (fun r => { r with stuck := false })).judgeLine bd
  else t

/-- R102: a stop timer expires unconfirmed. The first sets the board's stuck flag and takes the line down; the
generator is marked unconfirmed. -/
def State.stopExpired (g : Nat) (s : State) : State :=
  let bd := boardOf g
  let t := if (s.board bd).stuck then s else (s.modBoard bd (fun r => { r with stuck := true })).judgeLine bd
  t.modGen g (fun x => { x with stopTimer := none, unconfirmed := true })

/-- STOP_TIMER_EXPIRY (R102). -/
def execStopTimerExpiry (g : Fin 8) (s : State) : Host.Outcome State Fault Refusal :=
  .next (s.unlessReset (fun t => t.expire (t.gen g.val).stopTimer (State.stopExpired g.val)))

/-- R103: a generator when its board's line settles. -/
def settleGen (x : Gen) : Gen :=
  if x.unconfirmed && x.state ≠ .lost then
    { x with state := .faulted, fault := .stuck, retries := 3, retryTimer := .stopped,
             stopPending := false, stopTimer := none, unconfirmed := false }
  else
    { x with
      stopPending := false, stopTimer := none, unconfirmed := false
      state :=
        if x.state = .stopping && !x.inOperation then restState x
        else if x.state = .running then .armed
        else x.state }

/-- R103 with R111: a generator when its board's line settles after a leaving of ACTIVE. -/
def settleGenAfterLeave (x : Gen) : Gen := if x.unconfirmed then settleGen x else (settleGen x).freeFault

/-- R103, R108: whether the settle of the line makes a generator FAULTED that was not. -/
def settleFaults (x : Gen) : Bool := x.unconfirmed && x.state ≠ .lost && x.state ≠ .faulted

/-- R103, R111: a board's line settles. -/
def State.lineSettled (bd : Board) (s : State) : State :=
  let free := (s.board bd).freeFaults
  let faulted := (gensOf bd).filter (fun g => settleFaults (s.gen g))
  let t := s.modBoard bd (fun r => { r with settled := true, lineDown := none, freeFaults := false })
  let t := t.mapGens (fun g x =>
    if boardOf g = bd then (if free then settleGenAfterLeave x else settleGen x) else x)
  ((t.captureAll (faulted.map (fun _ => .genFault))).reportStopped (gensOf bd)).tryHaltShift

/-- LINE_DOWN_TIMER_EXPIRY (R103). -/
def execLineDownTimerExpiry (bd : Board) (s : State) : Host.Outcome State Fault Refusal :=
  .next (s.unlessReset (fun t => t.expire (t.board bd).lineDown (State.lineSettled bd)))

/-- RETRY_TIMER_EXPIRY (R107): the next report that gives fault NONE retries the generator. -/
def execRetryTimerExpiry (g : Fin 8) (s : State) : Host.Outcome State Fault Refusal :=
  .next (s.unlessReset (fun t =>
    match (t.gen g.val).retryTimer with
    | .running d => (t.elapseTo d).modGen g.val (fun x => { x with retryTimer := .expired })
    | .stopped => t
    | .expired => t))

/-! ### Reports (R97 to R99, R106, R107, R180) -/

/-- Table 6-2: a reported frequency, limited to 200 to 750. -/
def limitFreq (f : Nat) : Nat := clamp f 200 750

/-- Table 6-2, Table 12-5: a temperature byte; 255 is the no-reading code. -/
def readTemp (v : Nat) : Option Nat := if v = 255 then none else some (min v 250)

/-- Table 6-2, Table 12-5: a fault code; an unknown one is taken as SUPPLY. -/
def readFault (v : Nat) : GenFault :=
  if v = 0 then .none
  else if v = 1 then .overcurrent
  else if v = 2 then .bridgeHot
  else if v = 3 then .noLoad
  else .supply

/-- Table 12-5: the generator block at an offset of a part 1, limited as Table 6-2 states. -/
def readGenBlock (p : List Byte) (i : Nat) : GenReport :=
  let pFull := if numAt p (i + 3) = 0xFFFF then none else some (min (numAt p (i + 3)) 4000)
  { driving := 128 ≤ byteAt p i
    fault := readFault (byteAt p i % 128)
    fMin := if numAt p (i + 1) = 0 then none else some (limitFreq (numAt p (i + 1)))
    pFull := pFull
    pFullFreq := if pFull.isSome then some (limitFreq (numAt p (i + 5))) else none }

/-- Table 12-5: the 24 samples of a part 0. -/
def readSamples (p : List Byte) : List Nat := (List.range 24).map (fun i => numAt p (1 + 2 * i))

/-- R180, Table 6-2: the report joined from a held part 0's samples and a part 1. -/
def joinReport (samples : List Nat) (p : List Byte) : BoardReport :=
  { samples := samples
    temps := (List.range 24).map (fun i => readTemp (byteAt p (1 + i)))
    voltage := min (numAt p 25) 300
    gens := (List.range 4).map (fun i => readGenBlock p (27 + 7 * i)) }

/-- R98: a generator's reported values replace its own; a changed P_full limits the residue at once. -/
def takeGenValues (r : GenReport) (x : Gen) : Gen :=
  { x with
    fMin := r.fMin, pFull := r.pFull, pFullFreq := r.pFullFreq
    residue := if r.pFull = x.pFull then x.residue else min x.residue (r.pFull.getD 0 - 1) }

/-- R106: whether a reported fault makes a generator FAULTED. -/
def faultTaken (r : GenReport) (x : Gen) : Bool :=
  r.fault ≠ .none && (x.state = .armed || x.state = .running || x.state = .stopping || x.state = .routing)

/-- R107: whether a report retries a FAULTED generator. -/
def retryTaken (r : GenReport) (x : Gen) : Bool :=
  x.state = .faulted && x.fault ≠ .stuck && x.retries < 3 && x.retryTimer = .expired && !x.stopPending
    && !x.inOperation && r.fault = .none

/-- R98, R106, R107: a generator takes its block of a report. A retry raises the retry count in every mode (DESIGN
CHOICE, log 34). -/
def takeGenReport (now : Nat) (r : GenReport) (x : Gen) : Gen :=
  let y := takeGenValues r x
  if faultTaken r x then
    { y with state := .faulted, fault := r.fault,
             retryTimer := if x.retries < 3 then .running (now + retryTime) else .stopped }
  else if retryTaken r x then
    { y with retries := x.retries + 1, fault := .none, retryTimer := .stopped, state := restState x }
  else y

/-- R99: the drive-after-stop check: a report of drive on a settled line. -/
def State.driveAfterStop (bd : Board) (r : BoardReport) (s : State) : Bool :=
  !(s.board bd).line && (s.board bd).settled && r.gens.any (fun x => x.driving)

/-- R10: the phase takes the reported voltage; 0 is no measurement. -/
def PhaseRec.takeVoltage (v : Nat) (r : PhaseRec) : PhaseRec :=
  if v = 0 then r.loseVoltage else { r with voltage := some v, reportAge := 0 }

/-- R16: the reading a board report gives a coil of its half. -/
def reportReading (bd : Board) (r : BoardReport) (c : Nat) : Option Reading :=
  if halfOf c = bd then
    some { sample := (r.samples[halfIndex c]?).getD 0, temp := (r.temps[halfIndex c]?).getD none }
  else none

/-- The block of a generator in its board's report. -/
def reportBlock (r : BoardReport) (g : Nat) : GenReport :=
  (r.gens[positionOf g]?).getD { driving := false, fault := .none, fMin := none, pFull := none, pFullFreq := none }

/-- R97 step 5: the generator fields of a report are taken, and GEN_FAULT is captured for each generator that
becomes FAULTED (R108). -/
def State.takeGenFields (bd : Board) (r : BoardReport) (s : State) : State :=
  let faulted := (gensOf bd).filter (fun g => faultTaken (reportBlock r g) (s.gen g))
  (s.mapGens (fun g x => if boardOf g = bd then takeGenReport s.now (reportBlock r g) x else x)).captureAll
    (faulted.map (fun _ => .genFault))

/-- R97: a board report is taken, whole and in the order of the rule. -/
def State.takeReport (bd : Board) (r : BoardReport) (s : State) : State :=
  let t := if s.driveAfterStop bd r then s.enterHalt .driveAfterStop else s
  let t := if t.store.settings.showroom then t else t.intake (reportReading bd r)
  let t := t.modPhase (boardPhase bd) (PhaseRec.takeVoltage r.voltage)
  (t.takeGenFields bd r).modBoard bd (fun x => { x with lastReport := some r })

/-- R180: a Report frame is taken: a part 0 is held, a part 1 joins a held part 0 of the same tag; anything else
is disregarded. -/
def State.reportFrame (bd : Board) (f : Frame) (s : State) : State :=
  if byteAt f.payload 0 = 0 && f.payload.length = 49 then
    s.modBoard bd (fun r => { r with held := some (f.tag, readSamples f.payload) })
  else if byteAt f.payload 0 = 1 && f.payload.length = 55 then
    let t := s.modBoard bd (fun r => { r with held := none })
    match (s.board bd).held with
    | none => t
    | some (tag, samples) => if tag = f.tag then t.takeReport bd (joinReport samples f.payload) else t
  else s

/-- R95, R101: a hello taken from the queue: with all-stopped set it confirms all four generators; one that made
the board return has no further effect. -/
def State.helloFrame (bd : Board) (f : Frame) (s : State) : State :=
  if allStopped f && !f.returned then s.stopConfirmed bd (gensOf bd) else s

/-- R101, R180: a Stop Confirm frame: bits 3 to 0 name the generators by position; a length other than 1 is
disregarded. -/
def State.confirmFrame (bd : Board) (f : Frame) (s : State) : State :=
  if f.payload.length = 1 then
    s.stopConfirmed bd ((gensOf bd).filter (fun g => (byteAt f.payload 0).testBit (positionOf g)))
  else s

/-- R161: the frame at the front of a board's input queue is taken, when it is of the kind commanded and the board
is PRESENT or LATE. -/
def State.takeBoardFrame (bd : Board) (kind : Byte) (act : Frame → State → State) (s : State) : State :=
  match (s.link (boardLinkId bd)).queue with
  | [] => s
  | f :: rest =>
    if f.kind = kind && (s.boardLink bd).up then
      act f (s.modLink (boardLinkId bd) (fun r => { r with queue := rest }))
    else s

/-- BOARD_HELLO (R95). -/
def execBoardHello (bd : Board) (s : State) : Host.Outcome State Fault Refusal :=
  .next (s.unlessReset (fun t => t.takeBoardFrame bd kindHello (State.helloFrame bd)))

/-- REPORT (R180, R97). -/
def execReport (bd : Board) (s : State) : Host.Outcome State Fault Refusal :=
  .next (s.unlessReset (fun t => t.takeBoardFrame bd kindReport (State.reportFrame bd)))

/-- STOP_CONFIRM (R101). -/
def execStopConfirm (bd : Board) (s : State) : Host.Outcome State Fault Refusal :=
  .next (s.unlessReset (fun t => t.takeBoardFrame bd kindStopConfirm (State.confirmFrame bd)))

end Sys2Proof.Machine
end

