-- ==== Sys2Proof/Machine/Share.lean ====
section
/-! DEFINITION. The Share Calculator (chapter 7): the share computation of a frame start, stage by stage, and the
drive orders of R112 and R133. -/

namespace Sys2Proof.Machine

/-! ### Usable generators and contributing coils (7.2) -/

/-- R118: a contributing coil of the pan with number `n`. -/
def State.contributes (s : State) (n c : Nat) : Bool :=
  let k := s.coil c
  s.driveView c = .routed && k.latched.any (fun g => (s.gen g).pan = some n) && !k.hot && k.temp.isSome

/-- R118: the contributing coils of a pan. -/
def State.contributing (s : State) (n : Nat) : List Nat := coilIds.filter (s.contributes n)

/-- ARMED or RUNNING: the states in which a generator is ordered to a frequency (R126, R133). -/
def GenState.ready : GenState → Bool
  | .armed => true
  | .running => true
  | .idle => false
  | .stopping => false
  | .routing => false
  | .faulted => false
  | .lost => false

/-- R118: the condition on a generator's board, not applied in showroom mode. -/
def State.boardDrives (s : State) (bd : Board) : Bool :=
  s.store.settings.showroom || (s.boardLink bd = .present && (s.board bd).line)

/-- Whether the pan with number `n` is HEATING. -/
def State.heats (s : State) (n : Nat) : Bool := (findPan s.pans n).any (fun p => p.state = .heating)

/-- R118: a generator usable for the pan with number `n`. -/
def State.usable (s : State) (n g : Nat) : Bool :=
  let x := s.gen g
  x.state.ready && x.pan = some n && s.heats n && !x.inOperation && x.coils.all (s.contributes n)
    && s.boardDrives (boardOf g)

/-- The usable generators of a pan on one board, in ascending index. -/
def State.usableOn (s : State) (n : Nat) (bd : Board) : List Nat := (gensOf bd).filter (s.usable n)

/-- The summed weight of the coils latched to a generator (R124). -/
def State.genWeight (s : State) (g : Nat) : Nat := ((s.gen g).coils.map (fun c => (s.coil c).cls.weight)).sum

/-- R121: a pan's weight on one board. -/
def State.panWeight (s : State) (n : Nat) (bd : Board) : Nat := ((s.usableOn n bd).map s.genWeight).sum

/-! ### Stage 1: requests and the thermal cap (R119, R120) -/

/-- R120: what one contributing coil adds to the base cap, R being the coil full rating. -/
def coilRating (rating : Nat) : Cover → Nat
  | .none => 0
  | .partly => rating / 2
  | .full => rating

/-- R120: the cap under the hottest contributing coil's temperature. -/
def thermalCap (st : Settings) (base t : Nat) : Nat :=
  if t < st.tWarn then base else base * (st.tCut - t) / (st.tCut - st.tWarn)

/-- R120: the cap of a HEATING pan. -/
def State.capOf (s : State) (n : Nat) : Nat :=
  let cs := s.contributing n
  let base := (cs.map (fun c => coilRating s.store.settings.rating (s.coil c).cls)).sum
  let hottest := (cs.map (fun c => (s.coil c).temp.getD 0)).foldl max 0
  if cs.isEmpty then base else thermalCap s.store.settings base hottest

/-- The level table's power for a level; level 0 has none. -/
def Settings.power (st : Settings) (level : Nat) : Nat :=
  if level = 0 then 0 else (st.levelTable[level - 1]?).getD 0

/-- R119: whether a pan asks for power in this frame. -/
def State.asks (s : State) (p : Pan) : Bool := s.ctl.mode = .active && !s.levels.pause && p.state = .heating

/-- R119: a pan's cap in the frame, 0 where it does not ask. -/
def State.frameCap (s : State) (p : Pan) : Nat := if s.asks p then s.capOf p.number else 0

/-- R119: a pan's request in the frame. -/
def State.requestOf (s : State) (p : Pan) : Nat :=
  if s.asks p then min (s.store.settings.power p.level) (s.frameCap p) else 0

/-! ### Stages 2 and 3: demands and grants (R121 to R123) -/

/-- R121: a pan's demands on L1 and L2. -/
def splitRequest (request wA wB : Nat) : Nat × Nat :=
  if wA + wB = 0 then (0, 0)
  else (request * wA / (wA + wB), request - request * wA / (wA + wB))

/-- R121: the demands of the pan with number `n`. -/
def State.demandOf (s : State) (n : Nat) : Nat × Nat :=
  match findPan s.pans n with
  | none => (0, 0)
  | some p => splitRequest (s.requestOf p) (s.panWeight n .a) (s.panWeight n .b)

/-- A pan's grant on each phase (R122). -/
structure Grant where
  pan : Nat
  onA : Nat
  onB : Nat
deriving DecidableEq, Repr

/-- R122: the walk of the demand order, from what remains of each phase's budget. -/
def grantWalk (demand : Nat → Nat × Nat) : List Nat → Nat → Nat → List Grant
  | [], _, _ => []
  | n :: rest, remA, remB =>
    let gA := min (demand n).1 remA
    let gB := min (demand n).2 remB
    { pan := n, onA := gA, onB := gB } :: grantWalk demand rest (remA - gA) (remB - gB)

/-- R122: the grants of the frame, in demand order. -/
def State.grants (s : State) : List Grant :=
  grantWalk s.demandOf s.levels.demand s.mains.l1.budget s.mains.l2.budget

/-- A pan's grant on one board's phase. -/
def grantOn (grants : List Grant) (n : Nat) (bd : Board) : Nat :=
  match grants.find? (fun r => r.pan = n) with
  | none => 0
  | some r => match bd with
    | .a => r.onA
    | .b => r.onB

/-- The sum of all grants on one board's phase (R117). -/
def grantedOn (grants : List Grant) (bd : Board) : Nat :=
  (grants.map (fun r => match bd with
    | .a => r.onA
    | .b => r.onB)).sum

/-- A pan's whole grant. -/
def grantOf (grants : List Grant) (n : Nat) : Nat := grantOn grants n .a + grantOn grants n .b

/-- R123: the highest level from 1 to 14 whose power is at most the grant, 0 when there is none. -/
def levelWithin (st : Settings) (grant : Nat) : Nat :=
  (((List.range 14).reverse.map (· + 1)).find? (fun l => st.power l ≤ grant)).getD 0

/-- R123: a pan's limited field. -/
def limitedBy (p : Pan) (request grant : Nat) : Bool := p.starved || grant < request

/-- R123: a pan's effective level. -/
def effectiveLevel (st : Settings) (asks : Bool) (p : Pan) (request grant : Nat) : Nat :=
  if asks then (if limitedBy p request grant then levelWithin st grant else p.level) else 0

/-! ### Stage 4: shares (R124) -/

/-- R124: the plain part of a usable generator's share of the grant `g`. -/
def shareFloor (g w total : Nat) : Nat := g * w / total

/-- R124: a generator's share of its pan's grant on its phase; the lowest-indexed usable generator with a weight
takes the remainder. -/
def State.shareOf (s : State) (grants : List Grant) (g : Nat) : Nat :=
  match (s.gen g).pan with
  | none => 0
  | some n =>
    if s.usable n g then
      let bd := boardOf g
      let grant := grantOn grants n bd
      let usable := s.usableOn n bd
      let total := s.panWeight n bd
      let part := fun j => shareFloor grant (s.genWeight j) total
      let first := usable.find? (fun j => 0 < s.genWeight j)
      if first = some g then part g + (grant - (usable.map part).sum) else part g
    else 0

/-! ### Stage 5: the run set and frequency groups (R125, R126) -/

/-- R125: whether a generator with this share is in the run set. -/
def State.inRun (s : State) (shares : List Nat) (g : Nat) : Bool :=
  0 < (shares[g]?).getD 0 && (s.gen g).fMin.isSome

/-- R125: the run set. -/
def State.runSet (s : State) (shares : List Nat) : List Nat := genIds.filter (s.inRun shares)

/-- R125: two generators are neighbours when latched coils of theirs are adjacent. -/
def State.neighbours (s : State) (g h : Nat) : Bool :=
  (s.gen g).coils.any (fun c => (s.gen h).coils.any (fun d => adjacent c d))

/-- R125: the frequency group of a generator of the run set. -/
def State.groupOf (s : State) (run : List Nat) (g : Nat) : List Nat := closure run s.neighbours 8 [g]

/-- R125: the group's frequency, the highest f_min of its members. -/
def State.groupFreq (s : State) (run : List Nat) (g : Nat) : Nat :=
  ((s.groupOf run g).map (fun j => (s.gen j).fMin.getD 0)).foldl max 0

/-- R126: the probe frequency. -/
def probeFreq : Nat := 750

/-- R126: a generator's ordered frequency for the frame; one neither ARMED nor RUNNING keeps its last. -/
def State.orderedFreq (s : State) (run : List Nat) (g : Nat) : Nat :=
  if (s.gen g).state.ready then
    if run.contains g then s.groupFreq run g else (s.gen g).fMin.getD probeFreq
  else (s.gen g).ordered

/-! ### Stages 6 to 8: slots, the phase check and the residue (R127 to R130) -/

/-- R127: a settle frame: the ordered frequency is below the one the P_full was measured at. -/
def settleFrame (x : Gen) (ordered : Nat) : Bool := x.pFull.isSome && ordered < x.pFullFreq.getD 0

/-- R128: whether a generator's slots come from its P_full. -/
def State.planned (s : State) (inRun : Bool) (x : Gen) (ordered : Nat) : Bool :=
  inRun && !s.store.settings.showroom && 0 < x.pFull.getD 0 && !settleFrame x ordered

/-- A generator's figures of one frame. -/
structure GenPlan where
  share   : Nat
  ordered : Nat
  due     : Nat
  power   : Nat
  slots   : Nat
deriving DecidableEq, Repr

/-- Stages 5 and 6 for one generator: `power` is its P_full where the slots come from it, else 0 (R128). -/
def State.planGen (s : State) (shares : List Nat) (run : List Nat) (g : Nat) : GenPlan :=
  let x := s.gen g
  let share := (shares[g]?).getD 0
  let ordered := s.orderedFreq run g
  let due := 16 * share + x.residue
  let power := if s.planned (run.contains g) x ordered then x.pFull.getD 0 else 0
  { share := share, ordered := ordered, due := due, power := power,
    slots := if power = 0 then 0 else min 16 (due / power) }

/-- A generator's plan in the list of all eight. -/
def planOf (plans : List GenPlan) (g : Nat) : GenPlan :=
  (plans[g]?).getD { share := 0, ordered := 0, due := 0, power := 0, slots := 0 }

/-- The energy the plans place on one phase: the sum of slots × P_full (R129). -/
def plannedOn (plans : List GenPlan) (bd : Board) : Nat :=
  ((gensOf bd).map (fun g => (planOf plans g).slots * (planOf plans g).power)).sum

/-- R129 for one generator: slots are removed while the planned figure exceeds the limit. The answer is the slots
kept, the planned figure and the removals. -/
def trimGen (limit power : Nat) : Nat → Nat → Nat × Nat × Nat
  | 0, planned => (0, planned, 0)
  | slots + 1, planned =>
    if limit < planned then
      let r := trimGen limit power slots (planned - power)
      (r.1, r.2.1, r.2.2 + 1)
    else (slots + 1, planned, 0)

/-- R129: the phase check along an order of generators. -/
def trimWalk (limit : Nat) : List Nat → List GenPlan → Nat → Nat → List GenPlan × Nat × Nat
  | [], plans, planned, removed => (plans, planned, removed)
  | g :: rest, plans, planned, removed =>
    let x := planOf plans g
    let r := trimGen limit x.power x.slots planned
    trimWalk limit rest (plans.set g { x with slots := r.1 }) r.2.1 (removed + r.2.2)

/-- R129: the order of removal on a phase: the pans from the back of the demand order, within a pan its
generators on the phase from the highest index down. -/
def State.trimOrder (s : State) (bd : Board) : List Nat :=
  s.levels.demand.reverse.flatMap (fun n =>
    (gensOf bd).reverse.filter (fun g => (s.gen g).pan = some n))

/-- R129: the phase check of one phase. -/
def State.phaseCheck (s : State) (bd : Board) (plans : List GenPlan) : List GenPlan × Nat × Nat :=
  trimWalk (16 * (s.phase (boardPhase bd)).budget) (s.trimOrder bd) plans (plannedOn plans bd) 0

/-- R130: a generator's new residue; 0 where its slots do not come from its P_full (R128). -/
def GenPlan.residue (x : GenPlan) : Nat := if x.power = 0 then 0 else min (x.due - x.slots * x.power) (x.power - 1)

/-- R131: what one generator delivers in the frame. -/
def GenPlan.delivered (x : GenPlan) : Nat := x.slots * x.power / 16

/-! ### Stage 9: patterns and drive orders (R132, R133) -/

/-- R132: whether half-cycle `k` is on, for a generator at this position with this many slots. -/
def slotOn (position slots k : Nat) : Bool :=
  let j := (k + 4 * position) % 16
  j * slots / 16 < (j + 1) * slots / 16

/-- R132: the pattern of a generator at this position with this many slots. -/
def patternOf (position slots : Nat) : Pattern :=
  BitVec.ofNat 16 (maskOf ((List.range 16).filter (slotOn position slots)))

/-- R133: the results of the computation written to a generator record. -/
def GenPlan.write (g : Nat) (x : Gen) (r : GenPlan) : Gen :=
  { x with
    state := if x.state.ready then (if 0 < r.slots then .running else .armed) else x.state
    ordered := r.ordered, share := r.share, slots := r.slots, residue := r.residue
    pattern := patternOf (positionOf g) r.slots }

/-- Table 12-4: a generator's entry in a drive order (R133). -/
def orderEntry (x : Gen) : List Byte :=
  if x.state = .running then byteOf 3 :: be2 x.ordered ++ be2 x.pattern.toNat
  else if x.state = .armed then byteOf 1 :: be2 x.ordered ++ be2 0
  else byteOf 0 :: be2 0 ++ be2 0

/-- The payload of a board's drive order. -/
def State.orderPayload (s : State) (bd : Board) : List Byte := (gensOf bd).flatMap (fun g => orderEntry (s.gen g))

/-- R112: a board's drive order goes out while the board is PRESENT or LATE. -/
def State.sendDriveOrder (bd : Board) (s : State) : State :=
  if (s.boardLink bd).up then
    s.emit (.frame (boardLinkId bd) (frameBytes kindDriveOrder 0 (s.orderPayload bd)))
  else s

/-! ### The computation as a whole (R116) -/

/-- The plans of stages 1 to 6. -/
def State.firstPlans (s : State) (grants : List Grant) : List GenPlan :=
  let shares := genIds.map (s.shareOf grants)
  let run := s.runSet shares
  genIds.map (s.planGen shares run)

/-- R119 to R123, R131: the fields a pan takes from the computation. -/
def State.panFigures (s : State) (grants : List Grant) (plans : List GenPlan) (p : Pan) : Pan :=
  let request := s.requestOf p
  let grant := grantOf grants p.number
  { p with
    request := request, cap := s.frameCap p, grant := grant
    limited := limitedBy p request grant
    effective := effectiveLevel s.store.settings (s.asks p) p request grant
    delivered := ((genIds.filter (fun g => (s.gen g).pan = some p.number)).map (fun g => (planOf plans g).delivered)).sum }

/-- R117: one phase's allocation record. -/
def phaseAlloc (budget granted planned removed : Nat) : PhaseAlloc :=
  { budget := budget, granted := granted, remaining := budget - granted, planned := planned, removed := removed }

/-- R116: the share computation, taken whole. Of the two drive orders of R133, which no rule orders, board A's goes out
first (DESIGN CHOICE, log 39). -/
def State.shareComputation (s : State) : State :=
  let grants := s.grants
  let checkA := s.phaseCheck .a (s.firstPlans grants)
  let checkB := s.phaseCheck .b checkA.1
  let plans := checkB.1
  let pans := s.pans.map (s.panFigures grants plans)
  let changed := (s.pans.zip pans).filter (fun x => x.1.limited ≠ x.2.limited)
  let t := s.mapGens (fun g x => (planOf plans g).write g x)
  let u : State :=
    { t with
      pans := pans
      alloc :=
        { l1 := phaseAlloc s.mains.l1.budget (grantedOn grants .a) checkA.2.1 checkA.2.2
          l2 := phaseAlloc s.mains.l2.budget (grantedOn grants .b) checkB.2.1 checkB.2.2 }
      mains :=
        { t.mains with
          l1 := { t.mains.l1 with planned := checkA.2.1 }
          l2 := { t.mains.l2 with planned := checkB.2.1 } } }
  ((u.captureAll (changed.map (fun _ => .panLimited))).sendDriveOrder .a).sendDriveOrder .b

end Sys2Proof.Machine
end

