-- ==== Sys2Proof/Machine/Tracker.lean ====
section
/-! DEFINITION. The Pan Tracker (chapter 3): components, matching, the tracking pass, the recall list; and the
boost expiry (R69), which acts on a pan record. -/

namespace Sys2Proof.Machine

/-! ### Components (R36, R37) -/

/-- The numbers strictly between two numbers. -/
def strictlyBetween (x y : Nat) : List Nat :=
  (List.range (max x y)).filter (fun k => min x y < k)

/-- The coils strictly between two coils of one row or one column. -/
def coilsBetween (c d : Nat) : List Nat :=
  if rowOf c = rowOf d then (strictlyBetween (colOf c) (colOf d)).map (fun k => 12 * rowOf c + k)
  else if colOf c = colOf d then (strictlyBetween (rowOf c) (rowOf d)).map (fun k => 12 * k + colOf c)
  else []

/-- R36: whether two covered coils are joined: adjacent, or reaching across excluded coils in a straight line. -/
def State.joined (s : State) (c d : Nat) : Bool :=
  adjacent c d ||
    (!(coilsBetween c d).isEmpty && (coilsBetween c d).all (fun k => (s.coil k).excluded))

/-- R36: the components of a list of coils, by ascending lowest coil. -/
def componentsOf (joined : Nat → Nat → Bool) : Nat → List Nat → List (List Nat)
  | 0, _ => []
  | _, [] => []
  | fuel + 1, c :: rest =>
    let comp := closure (c :: rest) joined 48 [c]
    comp :: componentsOf joined fuel (rest.filter (fun d => !comp.contains d))

/-- The covered coils, in ascending id. -/
def State.coveredCoils (s : State) : List Nat := coilIds.filter (fun c => (s.coil c).cls.covered)

/-- R37: a small object: no FULL coil and at most two coils. -/
def State.smallObject (s : State) (comp : List Nat) : Bool :=
  comp.length ≤ 2 && comp.all (fun c => (s.coil c).cls ≠ .full)

/-- R37: the matched components, by ascending lowest coil. -/
def State.matchedComponents (s : State) : List (List Nat) :=
  (componentsOf s.joined 48 s.coveredCoils).filter (fun comp => !s.smallObject comp)

/-! ### Matching (R38, R39) -/

/-- R39: the distance from a coil to a pan's centroid, in tenths. -/
def distance (c : Nat) (p : Pan) : Nat := absDiff (10 * rowOf c) p.row + absDiff (10 * colOf c) p.col

/-- R39: the nearest of the pans, the first of those at the least distance. -/
def nearestPan (c : Nat) (pans : List Pan) : Option Pan :=
  pans.foldl (fun best p =>
    match best with
    | none => some p
    | some q => if distance c p < distance c q then some p else some q) none

/-- R38: the pans a component overlaps. -/
def overlapped (pans : List Pan) (comp : List Nat) : List Pan :=
  pans.filter (fun p => comp.any (fun c => p.footprint.contains c))

/-- R38, R39: the pan a coil of a matched component is attributed to. -/
def attributedIn (pans : List Pan) (comp : List Nat) (c : Nat) : Option Nat :=
  match pans.find? (fun p => p.footprint.contains c) with
  | some p => some p.number
  | none => (nearestPan c (overlapped pans comp)).map (fun p => p.number)

/-- R38, R39: the pan each coil is attributed to, coil by coil. -/
def attribution (pans : List Pan) (comps : List (List Nat)) : List (Option Nat) :=
  coilIds.map (fun c =>
    match comps.find? (fun comp => comp.contains c) with
    | none => none
    | some comp => attributedIn pans comp c)

/-- R38: a pan's new footprint, empty when the pan is not found. -/
def newFootprint (attr : List (Option Nat)) (n : Nat) : List Nat :=
  coilIds.filter (fun c => (attr[c]?).getD none = some n)

/-! ### Centroids and the move filter (R46, R47) -/

/-- R46: one coordinate of a centroid in tenths: 10 × S / W rounded half up. -/
def centroidOf (sum weight : Nat) : Nat := (20 * sum + weight) / (2 * weight)

/-- The weighted sum of a coordinate over a footprint. -/
def State.weigh (s : State) (coord : Nat → Nat) (footprint : List Nat) : Nat :=
  (footprint.map (fun c => (s.coil c).cls.weight * coord c)).sum

/-- R46: the centroid of a footprint: row and column. -/
def State.centroid (s : State) (footprint : List Nat) : Nat × Nat :=
  let w := s.weigh (fun _ => 1) footprint
  (centroidOf (s.weigh rowOf footprint) w, centroidOf (s.weigh colOf footprint) w)

/-- R47: whether the move filter reports a pan found at this pass, its new footprint and centroid already set. -/
def movedBy (st : Settings) (p : Pan) : Bool :=
  match st.moveFilter with
  | .off => false
  | .any => p.footprint ≠ p.prevFootprint
  | .threshold => st.moveThreshold ≤ absDiff p.row p.lastRow + absDiff p.col p.lastCol

/-- The centroid becomes the last reported one. -/
def Pan.reported (p : Pan) : Pan := { p with lastRow := p.row, lastCol := p.col }

/-- A pan takes its new footprint (R41 to R43) and centroid (R46). -/
def State.refoot (s : State) (footprint : List Nat) (p : Pan) : Pan :=
  let c := s.centroid footprint
  { p with prevFootprint := p.footprint, footprint := footprint, row := c.1, col := c.2 }

/-- R41 to R43: the state in which a pan that is found leaves the pass. -/
def foundState (p : Pan) : PanState :=
  match p.state with
  | .forming => .placed
  | .placed => .placed
  | .heating => .heating
  | .missing => if 0 < p.level then .heating else .placed

/-- R41 to R43, R47: a pan that is found: its record, and the events captured for it. -/
def State.foundPan (s : State) (footprint : List Nat) (p : Pan) : Pan × List Event :=
  let q := { s.refoot footprint p with state := foundState p }
  if p.state = .forming then (q.reported, [.panPlaced])
  else if movedBy s.store.settings q then (q.reported, [.panMoved])
  else (q, [])

/-! ### Missing and lifted pans (R42, R44, R45, R49) -/

/-- R44: the coils of a kept footprint that are not excluded. -/
def State.keptCoils (s : State) (p : Pan) : List Nat := p.footprint.filter (fun c => !(s.coil c).excluded)

/-- R44, R49: the size a recall entry records. -/
def State.keptSize (s : State) (p : Pan) : Nat :=
  if (s.keptCoils p).isEmpty then p.footprint.length else (s.keptCoils p).length

/-- R34: a record is removed and its number leaves the demand order. -/
def State.removePan (n : Nat) (s : State) : State :=
  { s with
    pans := s.pans.filter (fun p => p.number ≠ n)
    levels := { s.levels with demand := s.levels.demand.filter (· ≠ n) } }

/-- R49: a recall entry is pushed at the front; of four entries held, the oldest leaves. -/
def pushRecall (e : RecallEntry) (list : List RecallEntry) : List RecallEntry := e :: list.take 3

/-- R45: a pan is lifted. -/
def State.liftPan (p : Pan) (s : State) : State :=
  let t := s.removePan p.number
  let u : State :=
    if 0 < p.level && s.ctl.mode = .active then
      { t with recalls := pushRecall { level := p.level, boost := p.boost, size := s.keptSize p, liftTime := s.now } t.recalls }
    else t
  u.capture .panLifted

/-- R41 to R45: a pan that is not found at the pass. A pan becoming MISSING drops the coils that are now excluded
(R27, R44; DEDUCED, log 15). -/
def State.notFound (p : Pan) (s : State) : State :=
  match p.state with
  | .forming => s.removePan p.number
  | .missing => s.liftPan p
  | .placed | .heating =>
    if (s.keptCoils p).isEmpty then s.liftPan p
    else s.modPan p.number (fun q => { q with state := .missing, footprint := s.keptCoils p })

/-- R35 step 3 for one record of the table as the pass began. -/
def State.passPan (attr : List (Option Nat)) (s : State) (p : Pan) : State :=
  let footprint := newFootprint attr p.number
  if footprint.isEmpty then s.notFound p
  else
    let r := s.foundPan footprint p
    (s.modPan p.number (fun _ => r.1)).captureAll r.2

/-! ### The recall check (R50, R51) -/

/-- R50: whether a footprint size fits an entry's. -/
def sizeFits (old new : Nat) : Bool := absDiff new old ≤ max 1 (old / 2)

/-- The first entry that fits, and the list without it. -/
def takeFitting (size : Nat) : List RecallEntry → Option (RecallEntry × List RecallEntry)
  | [] => none
  | e :: rest =>
    if sizeFits e.size size then some (e, rest)
    else (takeFitting size rest).map (fun r => (r.1, e :: r.2))

/-- R51: a confirmed pan takes a recall entry. -/
def Pan.recall (e : RecallEntry) (p : Pan) : Pan :=
  { p with level := e.level, boost := e.boost, boostCounted := 0, source := .recalled, recalled := true,
           state := .heating }

/-- R50, R51: the recall check of a pan confirmed at this pass. -/
def State.recallCheck (s : State) (n : Nat) : State :=
  match findPan s.pans n with
  | none => s
  | some p =>
    if s.ctl.mode = .active then
      match takeFitting p.footprint.length s.recalls with
      | none => s
      | some (e, rest) =>
        let t := s.modPan n (Pan.recall e)
        ({ t with recalls := rest, levels := { t.levels with demand := toFront n t.levels.demand } } : State).capture
          .panRecalled
    else s

/-! ### Candidates (R40) and the pass as a whole (R35) -/

/-- R40: the lowest free pan number. -/
def freeNumber (pans : List Pan) : Option Nat :=
  [1, 2, 3, 4, 5, 6].find? (fun n => (findPan pans n).isNone)

/-- R40, Table 3-1: a new FORMING record. -/
def State.newPan (s : State) (n : Nat) (coils : List Nat) : Pan :=
  let c := s.centroid coils
  { number := n, state := .forming, footprint := coils, prevFootprint := [], row := c.1, col := c.2,
    lastRow := c.1, lastCol := c.2, level := 0, source := .panel, boost := none, boostCounted := 0,
    request := 0, cap := 0, grant := 0, delivered := 0, effective := 0, limited := false,
    gens := [], starved := false, recalled := false }

/-- A record put at its place in the table, which is kept in ascending number. -/
def insertPan (p : Pan) : List Pan → List Pan
  | [] => [p]
  | q :: rest => if p.number < q.number then p :: q :: rest else q :: insertPan p rest

/-- R40: a candidate opens a record under the lowest free number, or stays unclaimed. -/
def State.claim (s : State) (coils : List Nat) : State :=
  match freeNumber s.pans with
  | none => s
  | some n =>
    { s with
      pans := insertPan (s.newPan n coils) s.pans
      levels := { s.levels with demand := s.levels.demand ++ [n] } }

/-- R48: the pan field of every coil is rewritten. -/
def State.rewriteCoilPans (s : State) : State :=
  s.mapCoils (fun c k => { k with pan := (s.pans.find? (fun p => p.footprint.contains c)).map (fun p => p.number) })

/-- R35: the tracking pass, taken whole; the auto-off timer follows the levels it leaves (R72). -/
def State.trackingPass (s : State) : State :=
  let comps := s.matchedComponents
  let attr := attribution s.pans comps
  let confirmed := (s.pans.filter (fun p => p.state = .forming && !(newFootprint attr p.number).isEmpty)).map
    (fun p => p.number)
  let t := s.pans.foldl (State.passPan attr) s
  let t := confirmed.foldl State.recallCheck t
  let t := (comps.filter (fun comp => (overlapped s.pans comp).isEmpty)).foldl State.claim t
  t.rewriteCoilPans.judgeAutoOff

/-! ### Expiries -/

/-- R52: when a recall entry expires under the present window. -/
def State.recallDeadline (s : State) (e : RecallEntry) : Nat := e.liftTime + s.store.settings.recallWindow * sec

/-- RECALL_EXPIRY (R52): the entry at a place of the list leaves when the recall window has passed. -/
def execRecallExpiry (i : Nat) (s : State) : Host.Outcome State Fault Refusal :=
  .next (s.unlessReset (fun t =>
    match t.recalls[i]? with
    | none => t
    | some e =>
      let u := t.elapseTo (t.recallDeadline e)
      { u with recalls := u.recalls.eraseIdx i }))

/-- R69: a pan's boost has expired. -/
def Pan.endBoost (p : Pan) : Pan := { p with level := 13, boost := none, boostCounted := 0 }

/-- BOOST_EXPIRY (R69): the counting time the pan's boost has left passes, and its level becomes 13. A boost that
does not count does not expire (R68). -/
def execBoostExpiry (pan : Nat) (s : State) : Host.Outcome State Fault Refusal :=
  .next (s.unlessReset (fun t =>
    match findPan t.pans pan with
    | none => t
    | some p =>
      if p.boostCounts t.levels.pause then
        ((t.elapse p.boostLeft).modPan pan Pan.endBoost).capture .boostEnded
      else t))

end Sys2Proof.Machine
end

