-- ==== Sys2Proof/Machine/Assign.lean ====
section
/-! DEFINITION. The Route Controller's assignment (5.2), and the tracking point as a whole (R27, R35, R77, R83). -/

namespace Sys2Proof.Machine

/-- What each generator serves while an assignment is worked out, by index. -/
abbrev Serving := List (Option Nat)

/-- The pan a generator serves. -/
def servedBy (serving : Serving) (g : Nat) : Option Nat := (serving[g]?).getD none

/-- The generators of a board that serve a pan, in ascending index. -/
def serversOn (serving : Serving) (bd : Board) (n : Nat) : List Nat :=
  (gensOf bd).filter (fun g => servedBy serving g = some n)

/-- R77: a pan's routable coils in a half. -/
def State.routable (s : State) (p : Pan) (bd : Board) : List Nat :=
  p.footprint.filter (fun c => halfOf c = bd && !(s.coil c).hot && !(s.coil c).excluded)

/-- R77: a free generator. One released in the same assignment still serves its pan until the end of it, and so is
not free in it (DEDUCED, log 14). -/
def State.freeGen (s : State) (g : Nat) : Bool :=
  (s.gen g).state = .idle && (s.gen g).pan.isNone && s.boardLink (boardOf g) = .present

/-- R78: whether a generator that serves the pan with number `n` is released. -/
def State.released (s : State) (g n : Nat) : Bool :=
  let x := s.gen g
  let byPan :=
    match findPan s.pans n with
    | none => true
    | some p =>
      match p.state with
      | .forming => true
      | .placed => true
      | .heating => (s.routable p (boardOf g)).isEmpty
      | .missing => false
  byPan || x.state = .lost || (x.state = .faulted && 3 ≤ x.retries)

/-- R78: what the generators serve after the release. -/
def State.afterRelease (s : State) : Serving :=
  genIds.map (fun g =>
    match (s.gen g).pan with
    | none => none
    | some n => if s.released g n then none else some n)

/-- R79: a pan's need in a half. -/
def State.need (s : State) (p : Pan) (bd : Board) : Nat := ((s.routable p bd).length + 3) / 4

/-- R79: what the generators serve after each HEATING pan has released its surplus, the highest-indexed first. -/
def State.afterSurplus (s : State) (serving : Serving) : Serving :=
  genIds.map (fun g =>
    match servedBy serving g with
    | none => none
    | some n =>
      match findPan s.pans n with
      | none => some n
      | some p =>
        if p.state = .heating then
          if ((serversOn serving (boardOf g) n).take (s.need p (boardOf g))).contains g then some n else none
        else some n)

/-- R80: a pan takes free generators of one half up to its need. -/
def State.takeGens (s : State) (p : Pan) (serving : Serving) (bd : Board) : Serving :=
  let lacking := s.need p bd - (serversOn serving bd p.number).length
  let free := (gensOf bd).filter (fun g => s.freeGen g && (servedBy serving g).isNone)
  (free.take lacking).foldl (fun sv g => sv.set g (some p.number)) serving

/-- R80: the HEATING pans are served in demand order, half A before half B. -/
def State.afterGrant (s : State) (serving : Serving) : Serving :=
  s.levels.demand.foldl (fun sv n =>
    match findPan s.pans n with
    | none => sv
    | some p => if p.state = .heating then s.takeGens p (s.takeGens p sv .a) .b else sv) serving

/-- R78 to R80: what each generator serves from the end of the assignment. -/
def State.newServing (s : State) : Serving := s.afterGrant (s.afterSurplus s.afterRelease)

/-- The number of coils an image places on a generator. -/
def loadOf (image : List (Option Nat)) (g : Nat) : Nat := (image.filter (fun x => x = some g)).length

/-- R81 step 1: the coils that keep their generator. -/
def State.keptImage (s : State) (serving : Serving) : List (Option Nat) :=
  coilIds.map (fun c =>
    match s.pans.find? (fun p => p.footprint.contains c) with
    | none => none
    | some p =>
      match (s.coil c).desired with
      | none => none
      | some g =>
        if (s.routable p (halfOf c)).contains c && servedBy serving g = some p.number then some g else none)

/-- R81 step 2: the generator a coil is placed on: the least loaded of those with a place, the lowest index first. -/
def leastLoaded (image : List (Option Nat)) (gens : List Nat) : Option Nat :=
  (gens.filter (fun g => loadOf image g < 4)).foldl (fun best g =>
    match best with
    | none => some g
    | some h => if loadOf image g < loadOf image h then some g else some h) none

/-- R81 step 2: one coil is placed, or stays open. -/
def placeCoil (gens : List Nat) (image : List (Option Nat)) (c : Nat) : List (Option Nat) :=
  match leastLoaded image gens with
  | none => image
  | some g => image.set c (some g)

/-- R81 step 2 for one pan and one half: its other routable coils, FULL before PARTIAL. -/
def State.placeHalf (s : State) (serving : Serving) (p : Pan) (image : List (Option Nat)) (bd : Board) :
    List (Option Nat) :=
  let others := (s.routable p bd).filter (fun c => ((image[c]?).getD none).isNone)
  let full := others.filter (fun c => (s.coil c).cls = .full)
  let rest := others.filter (fun c => (s.coil c).cls ≠ .full)
  let gens := (serversOn serving bd p.number).filter (fun g => (s.gen g).state ≠ .faulted && (s.gen g).state ≠ .lost)
  (full ++ rest).foldl (placeCoil gens) image

/-- R81: the desired image. -/
def State.newImage (s : State) (serving : Serving) : List (Option Nat) :=
  s.pans.foldl (fun image p =>
    if p.state = .heating then s.placeHalf serving p (s.placeHalf serving p image .a) .b else image)
    (s.keptImage serving)

/-- R82: whether a pan is starved. -/
def starvedBy (serving : Serving) (p : Pan) : Bool :=
  p.state = .heating && genIds.all (fun g => servedBy serving g ≠ some p.number)

/-- R82: a starved mark that turns from no to yes on a pan not yet limited. -/
def becomesStarved (serving : Serving) (p : Pan) : Bool := !p.starved && starvedBy serving p && !p.limited

/-- R82: the fields a pan takes from the assignment. -/
def assignPan (serving : Serving) (p : Pan) : Pan :=
  { p with
    gens := genIds.filter (fun g => servedBy serving g = some p.number)
    starved := starvedBy serving p
    limited := p.limited || becomesStarved serving p }

/-- R77: the assignment, written all together. -/
def State.assignment (s : State) : State :=
  let serving := s.newServing
  let image := s.newImage serving
  let starving := s.pans.filter (becomesStarved serving)
  let t := (s.mapCoils (fun c k => { k with desired := (image[c]?).getD none })).mapGens
    (fun g x => { x with pan := servedBy serving g })
  (t.mapPans (assignPan serving)).captureAll (starving.map (fun _ => .panLimited))

/-- R77, R83: the tracking point in the Route Controller. -/
def State.routeTracking (s : State) : State :=
  match s.ctl.mode with
  | .active => s.assignment.tryOperation
  | .halt => s
  | .start => s.openAndRoute
  | .standby => s.openAndRoute
  | .survey => s.openAndRoute

/-- A tracking point: the exclusions are taken up (R27), the pass runs (R35) and the Route Controller follows. -/
def State.trackingPoint (s : State) : State := s.takeUpExclusions.trackingPass.routeTracking

end Sys2Proof.Machine
end

