-- ==== Sys2Proof/Machine/Mains.lean ====
section
/-! DEFINITION. The Mains Timer (chapter 1): the sync states, the allocation frame, the budgets, and the frame
start with what the other blocks do at it. -/

namespace Sys2Proof.Machine

/-! ### Sync states (R1 to R5) -/

/-- R1: a period in units of 0.01 ms, rounded down. -/
def periodOf (edge previous : Nat) : Nat := (edge - previous) / 10

/-- R1: whether a period is in range. -/
def periodInRange (p : Nat) : Bool := 750 ≤ p && p ≤ 1100

/-- R3: an edge in ACQUIRING, by the period it measures. -/
def acquiringEdge (p : Nat) (r : PhaseRec) : PhaseRec :=
  if periodInRange p then
    { r with
      halfPeriod := p, validCount := r.validCount + 1, outCount := 0
      sync := if 8 ≤ r.validCount + 1 then .valid else .acquiring }
  else { r with validCount := 0 }

/-- R4: an edge in VALID, by the period it measures. -/
def validEdge (p : Nat) (r : PhaseRec) : PhaseRec :=
  if periodInRange p then { r with halfPeriod := p, outCount := 0 }
  else if 3 ≤ r.outCount + 1 then { r with sync := .acquiring, validCount := 0, outCount := 0 }
  else { r with outCount := r.outCount + 1 }

/-- R2 to R4: an edge at the time `now`, by the sync state of its phase. -/
def edgeSync (now : Nat) (r : PhaseRec) : PhaseRec :=
  let p := periodOf now (r.prevEdge.getD now)
  let q :=
    match r.sync with
    | .absent => { r with sync := .acquiring, validCount := 0, outCount := 0, halfPeriod := 0 }
    | .acquiring => acquiringEdge p r
    | .valid => validEdge p r
  { q with prevEdge := some now, edgeTimer := some (now + edgeTime) }

/-- R5: the expiry of a phase's edge timer. -/
def absentSync (r : PhaseRec) : PhaseRec :=
  { r with sync := .absent, validCount := 0, outCount := 0, halfPeriod := 0, prevEdge := none, edgeTimer := none }

/-! ### The frame start (R11 to R14) -/

/-- R13, Table 1-5: the cause a phase's budget has. -/
def causeOf (r : PhaseRec) : BudgetCause :=
  if r.sync ≠ .valid then .noSync
  else
    match r.voltage with
    | none => .noVoltage
    | some v =>
      if 3 ≤ r.reportAge then .stale
      else if v < 176 || 276 < v then .voltageRange
      else .none

/-- R13: a phase's budget, in watts. -/
def budgetOf (r : PhaseRec) : Nat := if causeOf r = .none then r.limit * r.voltage.getD 0 / 10 else 0

/-- R12 steps 1 to 3 and 5 for one phase. -/
def startPhase (st : Settings) (r : PhaseRec) : PhaseRec :=
  let q := { r with reportAge := min 3 (r.reportAge + 1), limit := st.currentLimit }
  { q with budget := budgetOf q, cause := causeOf q, planned := 0 }

/-- R14: whether a frame start captures PHASE_FAULT for a phase. -/
def phaseFaults (before after : PhaseRec) : Bool := 0 < before.budget && after.budget = 0

/-- R12: what the Mains Timer does at a frame start before it hands it on. -/
def State.startPhases (s : State) : State :=
  let l1 := startPhase s.store.settings s.mains.l1
  let l2 := startPhase s.store.settings s.mains.l2
  let faults :=
    (if phaseFaults s.mains.l1 l1 then [Event.phaseFault] else []) ++
    (if phaseFaults s.mains.l2 l2 then [Event.phaseFault] else [])
  ({ s with mains := { s.mains with l1 := l1, l2 := l2 } } : State).captureAll faults

/-- R30, R152: the showroom intake and the survey's closing of the frame; with both to be done their order is a free
choice that stands for the whole survey, so that each frame holds one intake (log 11). -/
def State.intakeAndClose (s : State) : State :=
  if s.store.settings.showroom then
    if s.survey.state = .idle then s.showroomIntake
    else if Config.closingBeforeIntake s.choices then s.surveyClose.showroomIntake else s.showroomIntake.surveyClose
  else s.surveyClose

/-- A frame start, as the Mains Timer, the Surface Map, the Survey Controller and the Share Calculator take it. -/
def State.frameStart (s : State) : State := s.startPhases.intakeAndClose.shareComputation

/-- R8: a free frame begins. -/
def State.freeFrame (s : State) : State :=
  (s.modFrame (fun _ =>
    { state := .free, index := 0, freeTimer := some (s.now + freeFrameTime),
      trackTimer := some (s.now + trackingTime) })).frameStart

/-- R8: a synced frame begins, at an L1 edge. -/
def State.syncedFrame (s : State) : State :=
  (s.modFrame (fun f => { f with state := .synced, index := 0 })).frameStart

/-! ### Edges and expiries -/

/-- R7, R8: an L1 edge that leaves L1 VALID, in the frame machinery. -/
def State.frameEdge (s : State) : State :=
  match s.mains.frame.state with
  | .free => s
  | .handover => s.syncedFrame
  | .synced =>
    let i := s.mains.frame.index + 1
    if 16 ≤ i then s.syncedFrame
    else
      let t := s.modFrame (fun f => { f with index := i })
      if i = 8 then t.trackingPoint else t

/-- R6, R9, R142: L1 loses sync. The leaving of ACTIVE and the frame start may be taken in either order (log 12). -/
def State.l1Lost (s : State) : State :=
  if s.mains.frame.state = .free then s.leaveForStandby
  else if s.ctl.mode = .active then
    let t : State := { s with choices := s.choices + 1 }
    if Config.leaveBeforeFrame s.choices then t.leaveForStandby.freeFrame else t.freeFrame.leaveForStandby
  else s.freeFrame

/-- R6: what follows a change of L1's sync state, `before` being the state it had. -/
def State.l1Changed (before : Sync) (s : State) : State :=
  if before ≠ .valid && s.mains.l1.sync = .valid then s.judgeStart
  else if before = .valid && s.mains.l1.sync ≠ .valid then s.l1Lost
  else s

/-- R5: a phase's edge timer expires. -/
def State.edgeExpired (ph : Phase) (s : State) : State :=
  let before := (s.phase ph).sync
  let t := s.modPhase ph absentSync
  match ph with
  | .l1 => t.l1Changed before
  | .l2 => t

/-- R2 to R4, R7: an edge of a phase. -/
def State.edgeTaken (ph : Phase) (s : State) : State :=
  let before := (s.phase ph).sync
  let t := s.modPhase ph (edgeSync s.now)
  match ph with
  | .l1 =>
    let u := t.l1Changed before
    if t.mains.l1.sync = .valid then u.frameEdge else u
  | .l2 => t

/-- R5: whether a phase's edge timer has run out before the present time: an edge later than 25 ms after the one
before it finds the expiry already taken (log 3). -/
def State.edgeOverdue (ph : Phase) (s : State) (t : Nat) : Bool :=
  match (s.phase ph).edgeTimer with
  | none => false
  | some d => d < t

/-- ZERO_CROSS_EDGE (R1 to R4, R7): an edge `wait` microseconds after the command before it. -/
def execZeroCrossEdge (ph : Phase) (wait : Nat) (s : State) : Host.Outcome State Fault Refusal :=
  .next (
    if s.resetting.isSome then s.elapse wait
    else
      let t := if s.edgeOverdue ph (s.now + wait) then s.expire (s.phase ph).edgeTimer (State.edgeExpired ph) else s
      (t.elapseTo (s.now + wait)).edgeTaken ph)

/-- EDGE_TIMER_EXPIRY (R5). -/
def execEdgeTimerExpiry (ph : Phase) (s : State) : Host.Outcome State Fault Refusal :=
  .next (s.unlessReset (fun t => t.expire (t.phase ph).edgeTimer (State.edgeExpired ph)))

/-- R8: the free-frame timer expires. -/
def State.freeExpired (s : State) : State :=
  if s.mains.l1.sync = .valid then
    s.modFrame (fun f => { f with state := .handover, freeTimer := none, trackTimer := none })
  else s.freeFrame

/-- FREE_FRAME_EXPIRY (R8). -/
def execFreeFrameExpiry (s : State) : Host.Outcome State Fault Refusal :=
  .next (s.unlessReset (fun t => t.expire t.mains.frame.freeTimer State.freeExpired))

/-- R8: the tracking timer expires; this is the free frame's tracking point. -/
def State.trackExpired (s : State) : State := (s.modFrame (fun f => { f with trackTimer := none })).trackingPoint

/-- TRACKING_TIMER_EXPIRY (R8). -/
def execTrackingTimerExpiry (s : State) : Host.Outcome State Fault Refusal :=
  .next (s.unlessReset (fun t => t.expire t.mains.frame.trackTimer State.trackExpired))

end Sys2Proof.Machine
end

