-- ==== Sys2Proof/Machine/Links.lean ====
section
/-! DEFINITION. The Link Controllers (chapter 10): the assembly of bytes into frames, presence, the taking of
requests and their responses, notices, and the requests the Link Controllers own about events. -/

namespace Sys2Proof.Machine

/-! ### Arrival of frames (R160, R164) -/

/-- R160: assembly ends and the receiver returns to HUNTING. -/
def State.endAssembly (l : Link) (s : State) : State := s.modLink l (fun r => { r with rx := .hunting, gapTimer := none })

/-- R164: the presence effect of a valid frame on PANEL or REMOTE, and its place in the queue. -/
def State.partnerArrival (p : Partner) (f : Frame) (s : State) : State :=
  if (s.partner p).link.state.up || f.kind = kindHello then
    (s.modLink (partnerLink p) (LinkRec.makePresent (partnerLink p) s.now)).enqueue (partnerLink p) f
  else s

/-- R160: a frame whose CRC matched: with two frames already queued it is discarded, else it is valid. -/
def State.frameComplete (l : Link) (f : Frame) (s : State) : State :=
  if 2 ≤ (s.link l).queue.length then s
  else
    match l with
    | .panel => s.partnerArrival .panel f
    | .remote => s.partnerArrival .remote f
    | .genA => s.boardArrival .a f
    | .genB => s.boardArrival .b f

/-- FRAME_ARRIVAL (R160): a frame whose length byte is above 64 is discarded before it can complete. -/
def execFrameArrival (l : Link) (kind tag : Byte) (payload : List Byte) (s : State) : Host.Outcome State Fault Refusal :=
  .next (s.unlessReset (fun t =>
    let u := t.endAssembly l
    if payload.length ≤ 64 then u.frameComplete l { kind := kind, tag := tag, payload := payload } else u))

/-- R160: whether more than 2 ms have passed since the last byte of the frame being assembled. -/
def State.gapLapsed (s : State) (l : Link) : Bool :=
  match (s.link l).gapTimer with
  | none => false
  | some d => d < s.now

/-- R160: the bytes of the frame being assembled, and the time by which the next must begin. -/
def State.assemble (l : Link) (bytes : List Byte) (s : State) : State :=
  s.modLink l (fun r => { r with rx := .assembling bytes, gapTimer := some (s.now + gapTime) })

/-- R160: a byte within a frame, `bytes` being all that have followed the sync byte, this one included. -/
def State.frameByte (l : Link) (bytes : List Byte) (byte : Byte) (s : State) : State :=
  let len := byteAt bytes 2
  if bytes.length = 3 && 64 < len then s.endAssembly l
  else if 4 ≤ bytes.length && bytes.length = 4 + len then
    let t := s.endAssembly l
    if crc8 (bytes.take (3 + len)) = byte then
      t.frameComplete l
        { kind := (bytes[0]?).getD 0, tag := (bytes[1]?).getD 0, payload := (bytes.drop 3).take len }
    else t
  else s.assemble l bytes

/-- R160: a byte, by the receive state. -/
def State.takeByte (l : Link) (byte : Byte) (s : State) : State :=
  match (s.link l).rx with
  | .hunting => if byte = syncByte then s.assemble l [] else s
  | .assembling bytes => s.frameByte l (bytes ++ [byte]) byte

/-- BYTE_RECEIVED (R160): a byte that ends a gap above 2 ms is judged in HUNTING. -/
def execByteReceived (l : Link) (byte : Byte) (s : State) : Host.Outcome State Fault Refusal :=
  .next (s.unlessReset (fun t => (if t.gapLapsed l then t.endAssembly l else t).takeByte l byte))

/-- BYTE_GAP_TIMEOUT (R160): more than 2 ms have passed, the clock standing one microsecond beyond them. -/
def execByteGapTimeout (l : Link) (s : State) : Host.Outcome State Fault Refusal :=
  .next (s.unlessReset (fun t => t.expire ((t.link l).gapTimer.map (· + 1)) (State.endAssembly l)))

/-! ### Presence of the panel and the remote (R164) -/

/-- R161, R163, R164: PANEL or REMOTE becomes LOST: its queue, the frames produced for it and any notice pending
are dropped; a frame being sent is sent whole. -/
def PartnerRec.lose (r : PartnerRec) : PartnerRec :=
  { r with
    link := { r.link with state := .lost, presence := none, queue := [] }
    noticePending := false, produced := [] }

/-- R164, R142, R64: what the loss of a partner leads to. -/
def State.partnerGone (p : Partner) (s : State) : State :=
  match p with
  | .panel => s.leaveForStandby
  | .remote => { s with levels := { s.levels with permit := .off } }

/-- R164: the expiry of the presence timer of PANEL or REMOTE. -/
def State.partnerExpiry (p : Partner) (s : State) : State :=
  match (s.partner p).link.state with
  | .present =>
    (s.modLink (partnerLink p) (fun r =>
      { r with state := .late, presence := some (s.now + presenceTime (partnerLink p)) })).capture .linkLate
  | .late => ((s.modPartner p PartnerRec.lose).capture .linkLost).partnerGone p
  | .absent => s
  | .lost => s

/-- LINK_PRESENCE_EXPIRY (R164). -/
def execLinkPresenceExpiry (p : Partner) (s : State) : Host.Outcome State Fault Refusal :=
  .next (s.unlessReset (fun t => t.expire (t.partner p).link.presence (State.partnerExpiry p)))

/-! ### Sending (R163, R167) -/

/-- The frame on the link for a produced frame; a notice carries the captured set as it stands (R167). -/
def outBytes (captured : EventSet) : OutFrame → List Byte
  | .response tag payload => frameBytes kindResponse tag payload
  | .resetResponse tag => frameBytes kindResponse tag (answer .accepted [])
  | .notice => frameBytes kindNotice 0 (be2 captured.toNat)

/-- R163, R167: the sending of the frame `o` begins, `rest` being those produced after it. -/
def PartnerRec.beginSending (o : OutFrame) (rest : List OutFrame) (r : PartnerRec) : PartnerRec :=
  { r with produced := rest, sending := some o, noticePending := if o = .notice then false else r.noticePending }

/-- R163: the frame being sent has been sent, and the sending of the next produced frame begins, if there is one. Its
bytes are logged whole as its sending begins, and a reset that arrives then takes none of them back (DESIGN CHOICE,
log 38). The end of a Soft Reset response begins in the same way the sending of a notice produced behind it, before the
reset begins (DESIGN CHOICE, log 40). -/
def State.sendNext (p : Partner) (s : State) : State :=
  let r := s.partner p
  match r.produced with
  | [] => s.modPartner p (fun r => { r with sending := none })
  | o :: rest =>
    if r.link.state.up then
      (s.modPartner p (PartnerRec.beginSending o rest)).emit (.frame (partnerLink p) (outBytes r.captured o))
    else s.modPartner p (fun r => { r with sending := none })

/-- SEND_FRAME (R163). -/
def execSendFrame (p : Partner) (s : State) : Host.Outcome State Fault Refusal :=
  .next (s.unlessReset (State.sendNext p))

/-! ### Requests and responses (R161, R162) -/

/-- What an owner makes of a request: the state it leaves, the outcome and the data. -/
structure Served where
  state : State
  reply : Reply
  data  : List Byte
deriving DecidableEq, Repr

/-- A request taken, with no data in the response. -/
def accept (s : State) : Served := { state := s, reply := .accepted, data := [] }

/-- A request refused; a refused request changes no state (10.2). -/
def refuse (r : Reply) (s : State) : Served := { state := s, reply := r, data := [] }

/-- A read answered: nothing changes. -/
def give (data : List Byte) (s : State) : Served := { state := s, reply := .accepted, data := data }

/-- R162: the response to a frame, produced at its place before any notice the request led to (R167). -/
def State.respond (p : Partner) (place : Nat) (tag : Byte) (payload : List Byte) (s : State) : State :=
  s.modPartner p (produceAt place (.response tag payload))

/-- R161: the frame at the front of a partner's input queue is taken, when it is of a kind commanded. Once a Soft
Reset has been taken the frames behind it are dropped unanswered (R147; log 16). -/
def State.takePartnerFrame (p : Partner) (want : Byte → Bool) (act : Frame → State → State) (s : State) : State :=
  match (s.partner p).link.queue with
  | [] => s
  | f :: rest =>
    if want f.kind then
      let t := s.modLink (partnerLink p) (fun r => { r with queue := rest })
      if s.softReset then t else act f t
    else s

/-- R162: the tests of the Link Controller, in their order, and then the owner's. -/
def judgeRequest (p : Partner) (req : Request) (body : List Byte → State → Served) (payload : List Byte) (s : State) :
    Served :=
  if p = .remote && !requestFromRemote req then refuse .notPermitted s
  else if payload.length ≠ requestLength req then refuse .malformed s
  else body payload s

/-- R162: a request of one kind is taken, judged, acted on and answered. -/
def State.serve (p : Partner) (req : Request) (body : List Byte → State → Served) (s : State) : State :=
  s.takePartnerFrame p (fun k => k = requestCode req) (fun f t =>
    let r := judgeRequest p req body f.payload t
    r.state.respond p (t.partner p).produced.length f.tag (answer r.reply r.data))

/-- UNKNOWN_KIND (R162 test 1). -/
def execUnknownKind (p : Partner) (s : State) : Host.Outcome State Fault Refusal :=
  .next (s.unlessReset (State.takePartnerFrame p (fun k => !isRequestKind k) (fun f t =>
    t.respond p (t.partner p).produced.length f.tag (answer .unknownKind []))))

/-- HELLO (R165). -/
def execHello (p : Partner) (s : State) : Host.Outcome State Fault Refusal :=
  .next (s.unlessReset (State.serve p .hello (fun _ t =>
    give (be2 (t.partner p).captured.toNat ++ [t.ctl.startByte]) t)))

/-- READ_EVENTS (R168). -/
def execReadEvents (p : Partner) (s : State) : Host.Outcome State Fault Refusal :=
  .next (s.unlessReset (State.serve p .readEvents (fun _ t =>
    give (be2 (t.partner p).captured.toNat ++ be2 (t.partner p).enabled.toNat) t)))

/-- CLEAR_EVENTS (R168). -/
def execClearEvents (p : Partner) (s : State) : Host.Outcome State Fault Refusal :=
  .next (s.unlessReset (State.serve p .clearEvents (fun b t =>
    if t.ctl.mode = .halt then refuse .wrongMode t
    else accept (t.modPartner p (fun r => { r with captured := r.captured &&& ~~~(setAt b 0) })))))

/-- SET_EVENT_ENABLE (R169). -/
def execSetEventEnable (p : Partner) (s : State) : Host.Outcome State Fault Refusal :=
  .next (s.unlessReset (State.serve p .setEventEnable (fun b t =>
    if t.ctl.mode = .halt then refuse .wrongMode t
    else accept (t.modPartner p (fun r => { r with enabled := setAt b 0 })))))

end Sys2Proof.Machine
end

