-- ==== Sys2Proof/Machine/Levels.lean ====
section
/-! DEFINITION. The Level Unit's requests and its pause timer (chapter 4). -/

namespace Sys2Proof.Machine

/-- The source a partner's level has (R60). -/
def partnerSource : Partner → LevelSource
  | .panel => .panel
  | .remote => .remote

/-- The outcome of the mode test that most requests begin with: taken in ACTIVE alone (R59, R63, R70, R71). -/
def activeOnly (m : Mode) : Option Reply :=
  match m with
  | .start => some .notReady
  | .standby => some .wrongMode
  | .active => none
  | .survey => some .wrongMode
  | .halt => some .wrongMode

/-- R62, Table 4-4: whether the permit refuses a remote Set Level from the level a pan holds. -/
def permitRefuses (permit : Permit) (held asked : Nat) : Bool :=
  asked = 14 ||
  match permit with
  | .off => true
  | .reduceOnly => held < asked
  | .adjust => held = 0 && 0 < asked

/-- R59, Table 4-3: the outcome that refuses a Set Level, or none when it is taken. -/
def State.levelVerdict (s : State) (p : Partner) (n level : Nat) : Option Reply :=
  match activeOnly s.ctl.mode with
  | some r => some r
  | none =>
    if 14 < level then some .outOfRange
    else
      match findPan s.pans n with
      | none => some .noSuchPan
      | some q =>
        if q.state = .forming then some .notReady
        else if p = .remote && permitRefuses s.levels.permit q.level level then some .notPermitted
        else none

/-- R60 step 4: the state a pan moves to when its level becomes `level`; a MISSING pan stays MISSING (R61). -/
def levelState (level : Nat) : PanState → PanState
  | .forming => .forming
  | .placed => if 0 < level then .heating else .placed
  | .heating => if level = 0 then .placed else .heating
  | .missing => .missing

/-- R60, R61: a pan takes a level. -/
def Pan.setLevel (duration level : Nat) (source : LevelSource) (p : Pan) : Pan :=
  { p with
    level := level, source := source
    boost := if level = 14 then some duration else none
    boostCounted := 0
    state := levelState level p.state }

/-- R60, R61, R67, R72: a Set Level is taken. -/
def State.takeLevel (p : Partner) (n level : Nat) (s : State) : State :=
  let t := s.modPan n (Pan.setLevel s.store.settings.boostDuration level (partnerSource p))
  ({ t with levels := { t.levels with demand := toFront n t.levels.demand } } : State).judgeAutoOff

/-- SET_LEVEL (R59 to R62). -/
def execSetLevel (p : Partner) (s : State) : Host.Outcome State Fault Refusal :=
  .next (s.unlessReset (State.serve p .setLevel (fun b t =>
    match t.levelVerdict p (byteAt b 0) (byteAt b 1) with
    | some r => refuse r t
    | none => accept (t.takeLevel p (byteAt b 0) (byteAt b 1)))))

/-- The pause flag clears and its timer stops; MODE_CHANGED is captured (R66, R71). -/
def State.endPause (s : State) : State :=
  ({ s with levels := { s.levels with pause := false, pauseTimer := none } } : State).capture .modeChanged

/-- R66: All Off in ACTIVE. -/
def State.takeAllOff (p : Partner) (s : State) : State :=
  let t := s.mapPans (fun q => { q.switchOff with source := partnerSource p })
  (if t.levels.pause then t.endPause else t).judgeAutoOff

/-- ALL_OFF (R66). -/
def execAllOff (p : Partner) (s : State) : Host.Outcome State Fault Refusal :=
  .next (s.unlessReset (State.serve p .allOff (fun _ t =>
    if t.ctl.mode = .active then accept (t.takeAllOff p) else accept t)))

/-- Table 12-10: the permit a byte codes. -/
def permitOf (v : Nat) : Option Permit :=
  if v = 0 then some .off else if v = 1 then some .reduceOnly else if v = 2 then some .adjust else none

/-- SET_REMOTE_PERMIT (R63). -/
def execSetRemotePermit (p : Partner) (s : State) : Host.Outcome State Fault Refusal :=
  .next (s.unlessReset (State.serve p .setRemotePermit (fun b t =>
    match activeOnly t.ctl.mode with
    | some r => refuse r t
    | none =>
      match permitOf (byteAt b 0) with
      | none => refuse .outOfRange t
      | some v => accept { t with levels := { t.levels with permit := v } })))

/-- R70: a Pause is taken with the pause flag clear. -/
def State.beginPause (s : State) : State :=
  (({ s with levels := { s.levels with
        pause := true, pauseTimer := some (s.now + s.store.settings.pauseLimit * sec) } } : State).capture
    .modeChanged).judgeAutoOff

/-- PAUSE (R70). -/
def execPause (p : Partner) (s : State) : Host.Outcome State Fault Refusal :=
  .next (s.unlessReset (State.serve p .pause (fun _ t =>
    match activeOnly t.ctl.mode with
    | some r => refuse r t
    | none => accept (if t.levels.pause then t else t.beginPause))))

/-- RESUME (R71). -/
def execResume (p : Partner) (s : State) : Host.Outcome State Fault Refusal :=
  .next (s.unlessReset (State.serve p .resume (fun _ t =>
    match activeOnly t.ctl.mode with
    | some r => refuse r t
    | none => accept (if t.levels.pause then t.endPause.judgeAutoOff else t))))

/-- R71: the pause limit has passed. -/
def State.pauseExpired (s : State) : State := ((s.mapPans Pan.switchOff).endPause).judgeAutoOff

/-- PAUSE_TIMER_EXPIRY (R71). -/
def execPauseTimerExpiry (s : State) : Host.Outcome State Fault Refusal :=
  .next (s.unlessReset (fun t => t.expire t.levels.pauseTimer State.pauseExpired))

end Sys2Proof.Machine
end

