-- ==== Sys2Proof/Machine/ModeRequests.lean ====
section
/-! DEFINITION. The Mode Controller's requests: Activate, Deactivate and Soft Reset (8.4, R147). -/

namespace Sys2Proof.Machine

/-- R140, Table 8-3: the outcome of an Activate that does not change the mode, or none when the mode becomes
ACTIVE. -/
def State.activateVerdict (s : State) : Option Reply :=
  match s.ctl.mode with
  | .halt => some .wrongMode
  | .survey => some .busy
  | .start => some (if s.store.storing.isSome then .busy else .notReady)
  | .active => some (if s.store.storing.isSome then .busy else .accepted)
  | .standby =>
    if s.store.storing.isSome then some .busy
    else if s.links.panel.link.state ≠ .present then some .notReady
    else if s.mains.l1.sync ≠ .valid then some .notReady
    else if !s.store.settings.showroom && s.boardLink .a ≠ .present && s.boardLink .b ≠ .present then some .notReady
    else none

/-- R140: the mode becomes ACTIVE; both lines are judged and the auto-off timer starts. -/
def State.enterActive (s : State) : State := (s.setMode .active).judgeLines.judgeAutoOff

/-- ACTIVATE (R140). -/
def execActivate (p : Partner) (s : State) : Host.Outcome State Fault Refusal :=
  .next (s.unlessReset (State.serve p .activate (fun _ t =>
    match t.activateVerdict with
    | some r => refuse r t
    | none => accept t.enterActive)))

/-- DEACTIVATE (R141). -/
def execDeactivate (p : Partner) (s : State) : Host.Outcome State Fault Refusal :=
  .next (s.unlessReset (State.serve p .deactivate (fun _ t =>
    match t.ctl.mode with
    | .active => accept t.leaveForStandby
    | .standby => accept t
    | .start => refuse .notReady t
    | .survey => refuse .wrongMode t
    | .halt => refuse .wrongMode t)))

/-- R177: what a reset leaves of the stored image: a store in flight is cut off, and the image then does not match
its CRC (its layout: DESIGN CHOICE, log 10). -/
def Store.cutOff (st : Store) : StoredImage :=
  match st.storing with
  | none => st.image
  | some c => { contents := c.contents, crc := ~~~(crc16 c.contents.bytes) }

/-- R147: a Soft Reset is taken: its response is produced, and the requests behind it in either partner's queue are
dropped unanswered. A store in flight is cut off at the taking (R177, log 35); the reset begins at SOFT_RESET_START. -/
def State.takeSoftReset (p : Partner) (tag : Byte) (s : State) : State :=
  let dropQueue := fun (r : PartnerRec) => { r with link := { r.link with queue := [] } }
  let t : State := { s with softReset := true, store := { s.store with storing := none, image := s.store.cutOff } }
  let u := (t.modPartner .panel dropQueue).modPartner .remote dropQueue
  u.modPartner p (produceAt (s.partner p).produced.length (.resetResponse tag))

/-- SOFT_RESET (R147). -/
def execSoftReset (p : Partner) (s : State) : Host.Outcome State Fault Refusal :=
  .next (s.unlessReset (State.takePartnerFrame p (fun k => k = requestCode .softReset) (fun f t =>
    let r := judgeRequest p .softReset (fun _ u => accept u) f.payload t
    if r.reply = .accepted then t.takeSoftReset p f.tag
    else t.respond p (t.partner p).produced.length f.tag (answer r.reply r.data))))

end Sys2Proof.Machine
end

