-- ==== Sys2Proof/Machine/SurveyRequests.lean ====
section
/-! DEFINITION. The Survey Controller's requests: the survey (R151, R154, R155) and the showroom table (R157). -/

namespace Sys2Proof.Machine

/-- R151, Table 9-2: the outcome that refuses a Survey Start, or none when it is taken. -/
def State.surveyVerdict (s : State) : Option Reply :=
  match s.ctl.mode with
  | .halt => some .wrongMode
  | .survey => some .busy
  | .start => some (if s.store.storing.isSome then .busy else .notReady)
  | .active => some (if s.store.storing.isSome then .busy else .wrongMode)
  | .standby =>
    if s.store.storing.isSome then some .busy
    else if !s.store.settings.showroom && (s.boardLink .a ≠ .present || s.boardLink .b ≠ .present) then some .notReady
    else if coilIds.any (fun c => (s.store.exclusion[c]?).getD false && !(s.coil c).excluded) then some .notReady
    else if s.liveCoils.any (fun c => (s.coil c).cls ≠ .none) then some .notReady
    else if !s.pans.isEmpty then some .notReady
    else none

/-- R151: a survey of `n` frames starts; the last outcome stays. -/
def Survey.begin (n : Nat) (v : Survey) : Survey :=
  { v with
    state := .running, cause := none, length := n, count := 0, sums := List.replicate 48 0, clear := 0,
    samples := List.replicate 48 none, opened := false, exceeded := false, timer := none }

/-- R151: a Survey Start is taken. The next free choice is that of this survey's order of intake and closing in
showroom mode (R152, log 11): no other choice is made while a survey is under way. -/
def State.startSurvey (s : State) : State :=
  ({ s with survey := s.survey.begin s.store.settings.surveyLength, choices := s.choices + 1 } : State).setMode .survey

/-- SURVEY_START (R151). -/
def execSurveyStart (p : Partner) (s : State) : Host.Outcome State Fault Refusal :=
  .next (s.unlessReset (State.serve p .surveyStart (fun _ t =>
    match t.surveyVerdict with
    | some r => refuse r t
    | none => accept t.startSurvey)))

/-- R154, R155: the mode test of the requests taken in SURVEY alone. -/
def surveyOnly (m : Mode) : Option Reply :=
  match m with
  | .start => some .notReady
  | .standby => some .wrongMode
  | .active => some .wrongMode
  | .survey => none
  | .halt => some .wrongMode

/-- R154: a Survey Suspend is taken. -/
def Survey.takeSuspend (now : Nat) (v : Survey) : Survey :=
  match v.state with
  | .idle => v
  | .running => v.suspend .request now
  | .suspended => { v with cause := some .request }

/-- SURVEY_SUSPEND (R154). -/
def execSurveySuspend (p : Partner) (s : State) : Host.Outcome State Fault Refusal :=
  .next (s.unlessReset (State.serve p .surveySuspend (fun _ t =>
    match surveyOnly t.ctl.mode with
    | some r => refuse r t
    | none => accept { t with survey := t.survey.takeSuspend t.now })))

/-- R154: the end of a suspension by request. -/
def Survey.resume (v : Survey) : Survey := { v with state := .running, cause := none, timer := none, opened := false }

/-- SURVEY_RESUME (R154). -/
def execSurveyResume (p : Partner) (s : State) : Host.Outcome State Fault Refusal :=
  .next (s.unlessReset (State.serve p .surveyResume (fun _ t =>
    match surveyOnly t.ctl.mode with
    | some r => refuse r t
    | none =>
      if t.survey.state = .suspended then
        if t.survey.clear < 2 then refuse .notReady t else accept { t with survey := t.survey.resume }
      else accept t)))

/-- SURVEY_ABORT (R155). -/
def execSurveyAbort (p : Partner) (s : State) : Host.Outcome State Fault Refusal :=
  .next (s.unlessReset (State.serve p .surveyAbort (fun _ t =>
    match surveyOnly t.ctl.mode with
    | some r => refuse r t
    | none => accept (t.abortSurvey .abortedRequest))))

/-- R157: the twelve values a Write Showroom Row carries. -/
def showroomValues (b : List Byte) : List Nat := (List.range 12).map (fun i => numAt b (1 + 2 * i))

/-- R157: the twelve entries of a row are replaced together. -/
def putRow (table : List Nat) (row : Nat) (values : List Nat) : List Nat :=
  table.take (12 * row) ++ values ++ table.drop (12 * row + 12)

/-- R157: a Write Showroom Row is taken; each value is stored limited to 1023. -/
def State.takeRow (row : Nat) (values : List Nat) (s : State) : Served :=
  let stored := values.map limitSample
  let t : State := { s with store := { s.store with showroomTable := putRow s.store.showroomTable row stored } }
  if stored = values then accept t else { state := t, reply := .adjusted, data := stored.flatMap be2 }

/-- WRITE_SHOWROOM_ROW (R157). -/
def execWriteShowroomRow (p : Partner) (s : State) : Host.Outcome State Fault Refusal :=
  .next (s.unlessReset (State.serve p .writeShowroomRow (fun b t =>
    if t.ctl.mode = .start then refuse .notReady t
    else if t.ctl.mode = .halt then refuse .wrongMode t
    else if 3 < byteAt b 0 then refuse .outOfRange t
    else t.takeRow (byteAt b 0) (showroomValues b))))

end Sys2Proof.Machine
end

