-- ==== Sys2Proof/Machine/Settings.lean ====
section
/-! DEFINITION. The Settings Store (chapter 11): writes to the working settings, the store, the exclusion area,
the check of the stored image and its load. -/

namespace Sys2Proof.Machine

/-! ### Writes (R175) -/

/-- R175: the mode, store and START tests, in their order. -/
def State.writeVerdict (s : State) : Option Reply :=
  match s.ctl.mode with
  | .halt => some .wrongMode
  | .survey => some .busy
  | .start => some (if s.store.storing.isSome then .busy else .notReady)
  | .standby => if s.store.storing.isSome then some .busy else none
  | .active => if s.store.storing.isSome then some .busy else none

/-- Table 11-1: the range of the setting with this id; the move filter (15) and showroom (17) are ranges of codes.
Ids 1 to 17 follow the table's rows (Table 12-2). -/
def settingRange (id : Nat) : Option (Nat × Nat) :=
  match id with
  | 1 => some (100, 320)
  | 2 => some (300, 900)
  | 3 => some (0, 3)
  | 4 => some (40, 400)
  | 5 => some (100, 900)
  | 6 => some (5, 100)
  | 7 => some (120, 230)
  | 8 => some (150, 250)
  | 9 => some (2, 60)
  | 10 => some (60, 900)
  | 11 => some (60, 1800)
  | 12 => some (30, 600)
  | 13 => some (0, 31)
  | 14 => some (8, 64)
  | 15 => some (0, 2)
  | 16 => some (5, 40)
  | 17 => some (0, 1)
  | _ => none

/-- Whether a setting is an enumeration, which is refused out of its set and not limited (R175). -/
def settingIsEnum (id : Nat) : Bool := id = 15 || id = 17

/-- The move filter a code names (Table 12-10). -/
def moveFilterOf (v : Nat) : MoveFilter := if v = 0 then .off else if v = 1 then .any else .threshold

/-- The settings with one of them at a value in its range. -/
def Settings.write (id v : Nat) (st : Settings) : Settings :=
  match id with
  | 1 => { st with currentLimit := v }
  | 2 => { st with rating := v }
  | 3 => { st with avgExp := v }
  | 4 => { st with tp := v }
  | 5 => { st with tf := v }
  | 6 => { st with hyst := v }
  | 7 => { st with tWarn := v }
  | 8 => { st with tCut := v }
  | 9 => { st with recallWindow := v }
  | 10 => { st with boostDuration := v }
  | 11 => { st with pauseLimit := v }
  | 12 => { st with autoOffTime := v }
  | 13 => { st with settleCode := v }
  | 14 => { st with surveyLength := v }
  | 15 => { st with moveFilter := moveFilterOf v }
  | 16 => { st with moveThreshold := v }
  | 17 => { st with showroom := v = 1 }
  | _ => st

/-- The value of the setting with this id. -/
def Settings.value (st : Settings) (id : Nat) : Nat := (st.values[id - 1]?).getD 0

/-- R175: the dependencies, applied after a write of one of the settings they name. -/
def Settings.raise (id : Nat) (st : Settings) : Settings :=
  if id = 4 || id = 5 || id = 6 then { st with tf := max st.tf (st.tp + 2 * st.hyst) }
  else if id = 7 || id = 8 then { st with tCut := max st.tCut (st.tWarn + 10) }
  else st

/-- R175: the setting that a write of another may raise. -/
def dependentOf (id : Nat) : Option Nat :=
  if id = 4 || id = 6 then some 5 else if id = 7 then some 8 else none

/-- R175: the dependent that a write raised. -/
def raisedBy (id : Nat) (before after : Settings) : Option Nat :=
  match dependentOf id with
  | none => none
  | some d => if before.value d = after.value d then none else some d

/-- R175: the working settings after a write taken. -/
def Settings.afterWrite (id v : Nat) (range : Nat × Nat) (st : Settings) : Settings :=
  (st.write id (clamp v range.1 range.2)).raise id

/-- R22, R29, R105, R52: what the other blocks do when the working settings change. -/
def State.settingsChanged (before : Settings) (s : State) : State :=
  let st := s.store.settings
  let t := if st.avgExp = before.avgExp then s else s.emptyWindows
  let t := if st.showroom = before.showroom then t else t.showroomChanged.judgeLines
  if st.recallWindow = before.recallWindow then t
  else { t with recalls := t.recalls.filter (fun e => t.now < t.recallDeadline e) }

/-- Table 12-3: the data of a Write Setting answered ADJUSTED. -/
def adjustedData (id : Nat) (after : Settings) (raised : Option Nat) : List Byte :=
  be2 (after.value id) ++
    (match raised with
    | none => [0, 0, 0]
    | some d => byteOf d :: be2 (after.value d))

/-- R175: a Write Setting of a setting with this range is taken. -/
def State.takeWrite (id v : Nat) (range : Nat × Nat) (s : State) : Served :=
  let before := s.store.settings
  let after := before.afterWrite id v range
  let t := ({ s with store := { s.store with settings := after } } : State).settingsChanged before
  let raised := raisedBy id before after
  if after.value id = v && raised.isNone then accept t
  else { state := t, reply := .adjusted, data := adjustedData id after raised }

/-- WRITE_SETTING (R175). -/
def execWriteSetting (p : Partner) (s : State) : Host.Outcome State Fault Refusal :=
  .next (s.unlessReset (State.serve p .writeSetting (fun b t =>
    match t.writeVerdict with
    | some r => refuse r t
    | none =>
      match settingRange (byteAt b 0) with
      | none => refuse .outOfRange t
      | some range =>
        if settingIsEnum (byteAt b 0) && range.2 < numAt b 1 then refuse .outOfRange t
        else t.takeWrite (byteAt b 0) (numAt b 1) range)))

/-- R176: whether level-table entries lie within 50 to 3700 W and do not decrease. -/
def levelTableFits : List Nat → Bool
  | [] => true
  | [x] => 50 ≤ x && x ≤ 3700
  | x :: y :: rest => 50 ≤ x && x ≤ 3700 && x ≤ y && levelTableFits (y :: rest)

/-- WRITE_LEVEL_TABLE (R176). -/
def execWriteLevelTable (p : Partner) (s : State) : Host.Outcome State Fault Refusal :=
  .next (s.unlessReset (State.serve p .writeLevelTable (fun b t =>
    match t.writeVerdict with
    | some r => refuse r t
    | none =>
      let entries := (List.range 14).map (fun i => numAt b (2 * i))
      if levelTableFits entries then
        accept { t with store := { t.store with settings := { t.store.settings with levelTable := entries } } }
      else refuse .outOfRange t)))

/-- READ_SETTINGS (R176). -/
def execReadSettings (p : Partner) (s : State) : Host.Outcome State Fault Refusal :=
  .next (s.unlessReset (State.serve p .readSettings (fun b t =>
    if byteAt b 0 = 0 then
      give (t.store.settings.values.flatMap be2 ++ [byteOf (flag t.store.storing.isSome), byteOf (flag t.store.lock)]) t
    else if byteAt b 0 = 1 then give (t.store.settings.levelTable.flatMap be2) t
    else refuse .outOfRange t)))

/-! ### The store (R177) -/

/-- R177: the outcome that refuses a Store Settings, or none when it is taken. -/
def State.storeVerdict (s : State) : Option Reply :=
  match s.ctl.mode with
  | .halt => some .wrongMode
  | .survey => some .busy
  | .start => some (if s.store.storing.isSome then .busy else .wrongMode)
  | .active => some (if s.store.storing.isSome then .busy else .wrongMode)
  | .standby => if s.store.storing.isSome then some .busy else none

/-- R177: the working settings and the baselines as they stand. -/
def State.imageContents (s : State) : ImageContents :=
  { settings := s.store.settings, baselines := s.coils.map (fun k => k.baseline) }

/-- STORE_SETTINGS (R177). -/
def execStoreSettings (p : Partner) (s : State) : Host.Outcome State Fault Refusal :=
  .next (s.unlessReset (State.serve p .storeSettings (fun _ t =>
    match t.storeVerdict with
    | some r => refuse r t
    | none =>
      accept { t with store := { t.store with
        storing := some { contents := t.imageContents, latest := t.now + storeTime } } })))

/-- R177: the store completes: the image and its CRC-16 are in place. -/
def State.storeCompleted (c : Storing) (s : State) : State :=
  ({ s with store := { s.store with
      storing := none, image := { contents := c.contents, crc := crc16 c.contents.bytes } } } : State).capture .storeDone

/-- STORE_COMPLETE (R177): without a store in flight nothing completes. -/
def execStoreComplete (s : State) : Host.Outcome State Fault Refusal :=
  .next (s.unlessReset (fun t =>
    match t.store.storing with
    | none => t
    | some c => t.storeCompleted c))

/-! ### The exclusion area (R178) -/

/-- SET_EXCLUSION (R178). -/
def execSetExclusion (p : Partner) (s : State) : Host.Outcome State Fault Refusal :=
  .next (s.unlessReset (State.serve p .setExclusion (fun b t =>
    match t.writeVerdict with
    | some r => refuse r t
    | none =>
      if 47 < byteAt b 0 then refuse .outOfRange t
      else if t.store.lock then refuse .notPermitted t
      else accept { t with store := { t.store with exclusion := t.store.exclusion.set (byteAt b 0) true } })))

/-- LOCK_EXCLUSION (R178). -/
def execLockExclusion (p : Partner) (s : State) : Host.Outcome State Fault Refusal :=
  .next (s.unlessReset (State.serve p .lockExclusion (fun _ t =>
    match t.writeVerdict with
    | some r => refuse r t
    | none => accept { t with store := { t.store with lock := true } })))

/-! ### The check and the load (R174) -/

/-- R174: whether every setting lies within its range and the dependencies hold. -/
def Settings.fit (st : Settings) : Bool :=
  ((List.range 17).all (fun i =>
    match settingRange (i + 1) with
    | none => false
    | some r => r.1 ≤ st.value (i + 1) && st.value (i + 1) ≤ r.2)) &&
  st.tp + 2 * st.hyst ≤ st.tf && st.tWarn + 10 ≤ st.tCut &&
  st.levelTable.length = 14 && levelTableFits st.levelTable

/-- R174: whether the image's values fit. -/
def ImageContents.fit (c : ImageContents) : Bool :=
  c.settings.fit && c.baselines.length = 48 && c.baselines.all (fun b => b ≤ 1023)

/-- R174: the image passes its check. -/
def StoredImage.passes (i : StoredImage) : Bool := crc16 i.contents.bytes = i.crc && i.contents.fit

/-- R174: what is loaded: the stored image where it passes, the defaults where it fails. -/
def StoredImage.loaded (i : StoredImage) : ImageContents :=
  if i.passes then i.contents else { settings := Settings.default, baselines := List.replicate 48 64 }

end Sys2Proof.Machine
end

