-- ==== Sys2Proof/Machine/Reads.lean ====
section
/-! DEFINITION. The read requests (10.6) and the records as read (12.3). -/

namespace Sys2Proof.Machine

/-- A field of `width` bits placed at a bit position of a record. -/
def field (width position v : Nat) : Nat := (v % 2 ^ width) * 2 ^ position

/-! ### The status record (R170, Table 12-8) -/

/-- Section 0: one phase. -/
def PhaseRec.status (r : PhaseRec) : List Byte :=
  [byteOf r.sync.code, byteOf r.validCount, byteOf r.outCount] ++ be2 r.halfPeriod ++ be2 (r.voltage.getD 0) ++
    [byteOf r.reportAge] ++ be2 r.limit ++ be2 r.budget ++ [byteOf r.cause.code] ++ be4 r.planned

/-- Section 1: the surface. -/
def State.surfaceStatus (s : State) : List Byte :=
  let count := fun (f : Coil → Bool) => byteOf (s.coils.filter f).length
  [count (fun k => k.cls = .none), count (fun k => k.cls = .partly), count (fun k => k.cls = .full),
   count (fun k => k.hot), count (fun k => k.excluded)]

/-- Section 2: the demand order, seven bytes. -/
def demandStatus (order : List Nat) : List Byte :=
  byteOf order.length :: ((order ++ List.replicate 6 0).take 6).map byteOf

/-- Section 2: the pans and the Level Unit. -/
def State.pansStatus (s : State) : List Byte :=
  let count := fun (st : PanState) => byteOf (s.pans.filter (fun p => p.state = st)).length
  [count .forming, count .placed, count .heating, count .missing, byteOf s.recalls.length,
   byteOf s.store.settings.moveFilter.code, byteOf s.store.settings.moveThreshold] ++
    demandStatus s.levels.demand ++ [byteOf (flag s.levels.pause)] ++ be2 (s.secondsLeft s.levels.pauseTimer) ++
    [byteOf s.levels.permit.code] ++ be2 (s.secondsLeft s.levels.autoOff)

/-- Section 3: routing. -/
def State.routingStatus (s : State) : List Byte :=
  [byteOf s.route.stage.code, byteOf s.route.waitSet.length, byteOf (flag s.route.compare)]

/-- Section 4: one board. Bits 7 to 5, which the table does not give, are 0 (DESIGN CHOICE, log 41). -/
def State.boardStatus (s : State) (bd : Board) : Byte :=
  byteOf ((s.boardLink bd).code + 4 * flag (s.board bd).line + 8 * flag (s.board bd).stuck
    + 16 * flag (s.board bd).settled)

/-- Section 5: one phase's allocation. -/
def PhaseAlloc.status (a : PhaseAlloc) : List Byte :=
  be2 a.budget ++ be2 a.granted ++ be2 a.remaining ++ be4 a.planned ++ [byteOf a.removed]

/-- Section 6: the mode and the survey. -/
def State.modeStatus (s : State) : List Byte :=
  [byteOf s.ctl.mode.code, byteOf s.ctl.haltCause.code, byteOf (s.secondsLeft s.ctl.startTimer), s.ctl.startByte,
   s.ctl.retainedByte, byteOf s.survey.state.code, byteOf (suspendCode s.survey.cause), byteOf s.survey.length,
   byteOf s.survey.count, byteOf s.survey.clear] ++ be2 (s.secondsLeft s.survey.timer) ++
    [byteOf s.survey.last.code, byteOf (flag s.store.settings.showroom)]

/-- R170: a section of the status record, if there is one with this number. -/
def State.statusSection (s : State) (n : Nat) : Option (List Byte) :=
  match n with
  | 0 => some (s.mains.l1.status ++ s.mains.l2.status)
  | 1 => some s.surfaceStatus
  | 2 => some s.pansStatus
  | 3 => some s.routingStatus
  | 4 => some [s.boardStatus .a, s.boardStatus .b]
  | 5 => some (s.alloc.l1.status ++ s.alloc.l2.status)
  | 6 => some s.modeStatus
  | 7 => some [byteOf s.links.panel.link.state.code, byteOf s.links.remote.link.state.code]
  | _ => none

/-- READ_STATUS (R170). -/
def execReadStatus (p : Partner) (s : State) : Host.Outcome State Fault Refusal :=
  .next (s.unlessReset (State.serve p .readStatus (fun b t =>
    match t.statusSection (byteAt b 0) with
    | none => refuse .outOfRange t
    | some data => give data t)))

/-! ### Pans, coils and generators (R171) -/

/-- Table 12-6: a footprint in six bytes, coil c being bit c mod 8 of byte c div 8. -/
def footprintBytes (footprint : List Nat) : List Byte :=
  (List.range 6).map (fun i => byteOf (maskOf footprint / 256 ^ i))

/-- Table 12-6: a pan record as read. -/
def Pan.record (p : Pan) : List Byte :=
  [byteOf p.number,
   byteOf (p.state.code + 4 * p.source.code + 16 * flag p.limited + 32 * flag p.starved + 64 * flag p.recalled)] ++
    footprintBytes p.footprint ++ [byteOf p.row, byteOf p.col, byteOf p.level, byteOf p.effective] ++
    be2 (p.boost.getD 0) ++ be2 p.request ++ be2 p.grant ++ be2 p.delivered ++ [byteOf (maskOf p.gens)]

/-- R171: the number of the next record not carried, 0 for none. -/
def nextPan (rest : List Pan) : Nat :=
  match rest with
  | [] => 0
  | p :: _ => p.number

/-- READ_PANS (R171, Table 12-3): at most two records fit one response. -/
def execReadPans (p : Partner) (s : State) : Host.Outcome State Fault Refusal :=
  .next (s.unlessReset (State.serve p .readPans (fun b t =>
    let first := byteAt b 0
    if first = 0 || 6 < first then refuse .outOfRange t
    else
      let from_ := t.pans.filter (fun q => first ≤ q.number)
      give ((from_.take 2).flatMap Pan.record ++ [byteOf (nextPan (from_.drop 2))]) t)))

/-- Table 12-7: a coil summary as read. -/
def State.coilRecord (s : State) (c : Nat) : List Byte :=
  let k := s.coil c
  [byteOf (k.temp.getD 255)] ++
    be2 (field 3 13 (s.driveView c).code + field 1 12 (flag k.hot) + field 2 10 k.cls.code + field 10 0 k.cover) ++
    be2 (field 3 13 (coilCode k.latched) + field 3 10 (k.pan.getD 0) + field 10 0 k.baseline)

/-- READ_COILS (R171). -/
def execReadCoils (p : Partner) (s : State) : Host.Outcome State Fault Refusal :=
  .next (s.unlessReset (State.serve p .readCoils (fun b t =>
    let row := byteAt b 0
    if 3 < row then refuse .outOfRange t
    else give ((coilIds.filter (fun c => rowOf c = row)).flatMap t.coilRecord) t)))

/-- R114: the activity last reported for a generator; no before the first report. -/
def State.activity (s : State) (g : Nat) : Bool :=
  (s.board (boardOf g)).lastReport.any (fun r => (reportBlock r g).driving)

/-- Table 12-9: a generator record as read, as one 120-bit number. -/
def State.genRecord (s : State) (g : Nat) : Nat :=
  let x := s.gen g
  field 3 117 x.state.code + field 3 114 x.fault.code + field 2 112 x.retries + field 3 109 (x.pan.getD 0) +
    field 1 108 (flag (s.activity g)) + field 24 84 (maskOf (x.coils.map halfIndex)) + field 16 68 x.pattern.toNat +
    field 10 58 x.ordered + field 10 48 (x.fMin.getD 0) +
    field 10 38 (if x.pFull.isSome then x.pFullFreq.getD 0 else 0) + field 12 26 (x.pFull.getD 4095) +
    field 12 14 x.residue + field 12 2 x.share

/-- READ_GENERATORS (R171). -/
def execReadGenerators (p : Partner) (s : State) : Host.Outcome State Fault Refusal :=
  .next (s.unlessReset (State.serve p .readGenerators (fun b t =>
    if byteAt b 0 = 0 then give ((gensOf .a).flatMap (fun g => beBytes 15 (t.genRecord g))) t
    else if byteAt b 0 = 1 then give ((gensOf .b).flatMap (fun g => beBytes 15 (t.genRecord g))) t
    else refuse .outOfRange t)))

/-! ### The tables (R172, R179) -/

/-- R179, Table 12-11: the parameter table. -/
def parameterTable : List Byte :=
  [4, 12, 48, 8, 4, 4, 6, 4] ++ be2 200 ++ be2 750 ++ be2 750 ++ [14, 16, 1]

/-- READ_TABLE (R172, R179). -/
def execReadTable (p : Partner) (s : State) : Host.Outcome State Fault Refusal :=
  .next (s.unlessReset (State.serve p .readTable (fun b t =>
    let offset := byteAt b 1
    let length := byteAt b 2
    if byteAt b 0 = 0 then
      if length = 0 || 63 < length || parameterTable.length < offset + length then refuse .outOfRange t
      else give ((parameterTable.drop offset).take length) t
    else if byteAt b 0 = 1 then
      if 3 < offset then refuse .outOfRange t
      else give (((t.store.showroomTable.drop (12 * offset)).take 12).flatMap be2) t
    else refuse .outOfRange t)))

end Sys2Proof.Machine
end

