-- ==== Sys2Proof/Machine/Reset.lean ====
section
/-! DEFINITION. The resets (R147 to R149, R174): their beginning, which brings every block to its reset values, and
their end, which loads the settings and raises the first frame start. -/

namespace Sys2Proof.Machine

/-- The Settings Store at the beginning of a reset: what is non-volatile stays, the showroom table is 0 (R159). -/
def Store.reset (st : Store) : Store :=
  { st with storing := none, image := st.cutOff, showroomTable := List.replicate 48 0 }

/-- R93, R15: a phase record in a reset. -/
def Mains.initial : Mains :=
  { l1 := PhaseRec.initial, l2 := PhaseRec.initial,
    frame := { state := .free, index := 0, freeTimer := none, trackTimer := none } }

/-- R147: every block is brought to its reset values; both lines are deasserted from now on (R115). -/
def State.toResetValues (s : State) : State :=
  { s with
    mains := Mains.initial
    coils := List.replicate 48 Coil.initial
    pans := []
    recalls := []
    levels := Levels.initial
    route := Route.initial
    boardA := BoardRec.initial
    boardB := BoardRec.initial
    gens := List.replicate 8 Gen.initial
    alloc := { l1 := PhaseAlloc.initial, l2 := PhaseAlloc.initial }
    ctl := { s.ctl with mode := .start, startTimer := none, haltCause := .none }
    softReset := false
    survey := Survey.initial
    links :=
      { panel := PartnerRec.initial, remote := PartnerRec.initial, genA := LinkRec.initial, genB := LinkRec.initial }
    store := s.store.reset }

/-- R147: a reset of one cause during another: the one in progress goes on with its own cause, but a supply fall
makes the cause POWER_ON. -/
def Resetting.joined (cause : ResetCause) (r : Resetting) : Resetting :=
  if cause = .powerOn then { r with cause := .powerOn } else r

/-- The state in a reset. -/
def State.withReset (r : Resetting) (s : State) : State := { s with resetting := some r }

/-- R147: a reset begins, or arrives during another. -/
def State.beginReset (cause : ResetCause) (s : State) : State :=
  match s.resetting with
  | some r => { s with resetting := some (r.joined cause) }
  | none => s.toResetValues.withReset { cause := cause, halted := s.ctl.mode = .halt }

/-- POWER_ON (R147). -/
def execPowerOn (s : State) : Host.Outcome State Fault Refusal := .next (s.beginReset .powerOn)

/-- RESET_LINE (R147). -/
def execResetLine (s : State) : Host.Outcome State Fault Refusal := .next (s.beginReset .resetLine)

/-- R147: whether a frame is the response of a Soft Reset. -/
def OutFrame.isResetResponse : OutFrame → Bool
  | .resetResponse _ => true
  | .response _ _ => false
  | .notice => false

/-- R147: whether the Soft Reset response still waits to be sent, or is being sent. -/
def PartnerRec.awaitsResetResponse (r : PartnerRec) : Bool :=
  r.produced.any OutFrame.isResetResponse || r.sending.any OutFrame.isResetResponse

/-- R147: a Soft Reset has been taken, and its response has been sent whole or dropped. -/
def State.softResetReady (s : State) : Bool := s.softReset && !s.links.panel.awaitsResetResponse

/-- SOFT_RESET_START (R147): before the response has been sent whole, or without a Soft Reset taken, no reset begins
(log 27). -/
def execSoftResetStart (s : State) : Host.Outcome State Fault Refusal :=
  .next (s.unlessReset (fun t => if t.softResetReady then t.beginReset .softReset else t))

/-- R148, R149, R150: the Mode Controller at the end of a reset. -/
def Ctl.afterReset (now : Nat) (r : Resetting) (defaulted : Bool) (c : Ctl) : Ctl :=
  { mode := .start, startTimer := some (now + startTime), haltCause := .none
    startCause := r.cause, defaulted := defaulted
    wasHalted := if r.cause = .powerOn then false else r.halted
    lastHalt := if r.cause = .powerOn then .none else c.lastHalt }

/-- R174, R26, R33: the load of the settings, the baselines and the exclusion flags. -/
def State.load (s : State) : State :=
  let c := s.store.image.loaded
  let t := s.mapCoils (fun i k =>
    { k with baseline := (c.baselines[i]?).getD 64, excluded := (s.store.exclusion[i]?).getD false })
  { t with store := { t.store with settings := c.settings } }

/-- R15: the current limit of both phases follows the loaded setting. -/
def State.loadLimits (s : State) : State :=
  let lim := fun (r : PhaseRec) => { r with limit := s.store.settings.currentLimit }
  (s.modPhase .l1 lim).modPhase .l2 lim

/-- R103, R115: the line-down timers start at the end of the reset. -/
def State.startLineDowns (s : State) : State :=
  let start := fun (r : BoardRec) => { r with lineDown := some (s.now + stopDelay) }
  (s.modBoard .a start).modBoard .b start

/-- R147: the end of a reset. -/
def State.endReset (r : Resetting) (s : State) : State :=
  let t := s.load.loadLimits.startLineDowns
  let u : State :=
    { t with
      resetting := none
      ctl := t.ctl.afterReset t.now r (!s.store.image.passes) }
  u.freeFrame

/-- RESET_END (R147): without a reset in progress nothing ends. -/
def execResetEnd (s : State) : Host.Outcome State Fault Refusal :=
  .next (
    match s.resetting with
    | none => s
    | some r => s.endReset r)

end Sys2Proof.Machine
end

