-- ==== Sys2Proof/Machine/Clock.lean ====
section
/-! DEFINITION. What happens when no command waits: the timer that is due, by the command that takes its expiry. -/

namespace Sys2Proof.Machine

/-- Whether a generator's retry timer is running and has reached its time. -/
def State.retryDue (s : State) (g : Nat) : Bool :=
  match (s.gen g).retryTimer with
  | .running d => d ≤ s.now
  | .stopped => false
  | .expired => false

/-- Whether the recall entry at a place has expired (R52). -/
def State.recallDue (s : State) (i : Nat) : Bool := (s.recalls[i]?).any (fun e => s.recallDeadline e ≤ s.now)

/-- Whether a pan's boost remaining has reached 0 (R69). -/
def State.boostDue (s : State) (n : Nat) : Bool :=
  (findPan s.pans n).any (fun p => p.boostCounts s.levels.pause && p.boostLeft = 0)

/-- Whether the store has reached the latest time at which it completes (R177). -/
def State.storeDue (s : State) : Bool := s.store.storing.any (fun c => c.latest ≤ s.now)

/-- The generators, as operands of commands. -/
def allGens : List (Fin 8) := [0, 1, 2, 3, 4, 5, 6, 7]

/-- Every timer of the part with the command that takes its expiry. Of several that are due, the first of this list
is taken (DESIGN CHOICE, log 4). -/
def State.timers (s : State) : List (Bool × Instr) :=
  List.flatten
    [[(s.gapLapsed .panel, .byteGapTimeout .panel), (s.gapLapsed .remote, .byteGapTimeout .remote),
      (s.gapLapsed .genA, .byteGapTimeout .genA), (s.gapLapsed .genB, .byteGapTimeout .genB)],
     [(s.timerDue s.mains.l1.edgeTimer, .edgeTimerExpiry .l1), (s.timerDue s.mains.l2.edgeTimer, .edgeTimerExpiry .l2),
      (s.timerDue s.mains.frame.trackTimer, .trackingTimerExpiry),
      (s.timerDue s.mains.frame.freeTimer, .freeFrameExpiry)],
     [(s.timerDue s.links.genA.presence, .boardPresenceExpiry .a),
      (s.timerDue s.links.genB.presence, .boardPresenceExpiry .b),
      (s.timerDue s.links.panel.link.presence, .linkPresenceExpiry .panel),
      (s.timerDue s.links.remote.link.presence, .linkPresenceExpiry .remote)],
     allGens.map (fun g => (s.timerDue (s.gen g.val).stopTimer, .stopTimerExpiry g)),
     [(s.timerDue s.boardA.lineDown, .lineDownTimerExpiry .a), (s.timerDue s.boardB.lineDown, .lineDownTimerExpiry .b)],
     allGens.map (fun g => (s.retryDue g.val, .retryTimerExpiry g)),
     [(s.timerDue s.route.settleTimer, .settleTimerExpiry)],
     (List.range 4).map (fun i => (s.recallDue i, .recallExpiry i)),
     [1, 2, 3, 4, 5, 6].map (fun n => (s.boostDue n, .boostExpiry n)),
     [(s.timerDue s.levels.pauseTimer, .pauseTimerExpiry), (s.timerDue s.levels.autoOff, .autoOffExpiry),
      (s.timerDue s.ctl.startTimer, .startTimerExpiry), (s.timerDue s.survey.timer, .suspendTimerExpiry),
      (s.storeDue, .storeComplete)]]

/-- What the part does of itself now: a SOFT_RESET ends at once (R147) and begins once its response has been sent;
otherwise a timer that is due expires. -/
def State.nextDue (s : State) : Option Instr :=
  match s.resetting with
  | some r => if r.cause = .softReset then some .resetEnd else none
  | none =>
    if s.softResetReady then some .softResetStart
    else (s.timers.find? (fun x => x.1)).map (fun x => x.2)

end Sys2Proof.Machine
end

