-- ==== Sys2Proof/Machine/Dispatch.lean ====
section
/-! DEFINITION. One arm per command, each one call of its meaning. -/

namespace Sys2Proof.Machine

def exec (i : Instr) (s : State) : Host.Outcome State Fault Refusal :=
  match i with
  | .zeroCrossEdge ph wait => Sys2Proof.Machine.execZeroCrossEdge ph wait s
  | .edgeTimerExpiry ph => Sys2Proof.Machine.execEdgeTimerExpiry ph s
  | .freeFrameExpiry => Sys2Proof.Machine.execFreeFrameExpiry s
  | .trackingTimerExpiry => Sys2Proof.Machine.execTrackingTimerExpiry s
  | .powerOn => Sys2Proof.Machine.execPowerOn s
  | .resetLine => Sys2Proof.Machine.execResetLine s
  | .resetEnd => Sys2Proof.Machine.execResetEnd s
  | .softResetStart => Sys2Proof.Machine.execSoftResetStart s
  | .frameArrival link kind tag payload => Sys2Proof.Machine.execFrameArrival link kind tag payload s
  | .byteGapTimeout link => Sys2Proof.Machine.execByteGapTimeout link s
  | .linkPresenceExpiry p => Sys2Proof.Machine.execLinkPresenceExpiry p s
  | .boardPresenceExpiry bd => Sys2Proof.Machine.execBoardPresenceExpiry bd s
  | .sendFrame p => Sys2Proof.Machine.execSendFrame p s
  | .unknownKind p => Sys2Proof.Machine.execUnknownKind p s
  | .hello p => Sys2Proof.Machine.execHello p s
  | .readStatus p => Sys2Proof.Machine.execReadStatus p s
  | .readPans p => Sys2Proof.Machine.execReadPans p s
  | .readCoils p => Sys2Proof.Machine.execReadCoils p s
  | .readGenerators p => Sys2Proof.Machine.execReadGenerators p s
  | .readEvents p => Sys2Proof.Machine.execReadEvents p s
  | .clearEvents p => Sys2Proof.Machine.execClearEvents p s
  | .setEventEnable p => Sys2Proof.Machine.execSetEventEnable p s
  | .readTable p => Sys2Proof.Machine.execReadTable p s
  | .readSettings p => Sys2Proof.Machine.execReadSettings p s
  | .setLevel p => Sys2Proof.Machine.execSetLevel p s
  | .allOff p => Sys2Proof.Machine.execAllOff p s
  | .setRemotePermit p => Sys2Proof.Machine.execSetRemotePermit p s
  | .pause p => Sys2Proof.Machine.execPause p s
  | .resume p => Sys2Proof.Machine.execResume p s
  | .activate p => Sys2Proof.Machine.execActivate p s
  | .deactivate p => Sys2Proof.Machine.execDeactivate p s
  | .softReset p => Sys2Proof.Machine.execSoftReset p s
  | .surveyStart p => Sys2Proof.Machine.execSurveyStart p s
  | .surveySuspend p => Sys2Proof.Machine.execSurveySuspend p s
  | .surveyResume p => Sys2Proof.Machine.execSurveyResume p s
  | .surveyAbort p => Sys2Proof.Machine.execSurveyAbort p s
  | .writeShowroomRow p => Sys2Proof.Machine.execWriteShowroomRow p s
  | .writeSetting p => Sys2Proof.Machine.execWriteSetting p s
  | .writeLevelTable p => Sys2Proof.Machine.execWriteLevelTable p s
  | .storeSettings p => Sys2Proof.Machine.execStoreSettings p s
  | .setExclusion p => Sys2Proof.Machine.execSetExclusion p s
  | .lockExclusion p => Sys2Proof.Machine.execLockExclusion p s
  | .boardHello bd => Sys2Proof.Machine.execBoardHello bd s
  | .report bd => Sys2Proof.Machine.execReport bd s
  | .stopConfirm bd => Sys2Proof.Machine.execStopConfirm bd s
  | .stopTimerExpiry g => Sys2Proof.Machine.execStopTimerExpiry g s
  | .lineDownTimerExpiry bd => Sys2Proof.Machine.execLineDownTimerExpiry bd s
  | .retryTimerExpiry g => Sys2Proof.Machine.execRetryTimerExpiry g s
  | .chainTransferComplete readback => Sys2Proof.Machine.execChainTransferComplete readback s
  | .settleTimerExpiry => Sys2Proof.Machine.execSettleTimerExpiry s
  | .recallExpiry n => Sys2Proof.Machine.execRecallExpiry n s
  | .boostExpiry pan => Sys2Proof.Machine.execBoostExpiry pan s
  | .pauseTimerExpiry => Sys2Proof.Machine.execPauseTimerExpiry s
  | .autoOffExpiry => Sys2Proof.Machine.execAutoOffExpiry s
  | .startTimerExpiry => Sys2Proof.Machine.execStartTimerExpiry s
  | .suspendTimerExpiry => Sys2Proof.Machine.execSuspendTimerExpiry s
  | .storeComplete => Sys2Proof.Machine.execStoreComplete s
  | .byteReceived link byte => Sys2Proof.Machine.execByteReceived link byte s

end Sys2Proof.Machine
end

