-- ==== Sys2Proof/Machine/Step.lean ====
section
/-! DEFINITION. One step: the command at the front of the queue, and on an empty queue the timer that is due or
one microsecond of time. -/

namespace Sys2Proof.Machine

/-- The queue without its front. -/
def State.withPending (s : State) (rest : List Instr) : State := { s with pending := rest }

/-- One step. On an empty queue the part takes the expiry that is due, or one microsecond passes (DESIGN CHOICE,
log 1). -/
def step (s : State) : Host.Outcome State Fault Refusal :=
  match s.pending with
  | c :: rest => exec c (s.withPending rest)
  | [] =>
    match s.nextDue with
    | some c => exec c s
    | none => .next (s.elapse 1)

/-- The state with the command a word spells at the front of its queue; no word spells one (Decode.lean). -/
def State.withFetchWord (s : State) (nbits w : Nat) : State :=
  match decodeTableWord nbits w with
  | some c => s.withPending (c :: s.pending)
  | none => s

end Sys2Proof.Machine
end

