-- ==== Sys2Proof/Safety.lean ====
section
/-! DEFINITION. The laws of the part, as predicates of one state or of two: what the claims say every step keeps. -/

namespace Sys2Proof.Safety

open Sys2Proof.Machine

/-- R105: each enable line is asserted exactly while its four conditions hold. -/
def LinesFollow (s : State) : Prop :=
  s.boardA.line = s.lineWanted .a ∧ s.boardB.line = s.lineWanted .b

/-- R73, R53, R64, R72: outside ACTIVE every level is 0 and no pan heats, no boost, pause or auto-off runs, the
permit is OFF and the recall list is empty. -/
def RestsOutsideActive (s : State) : Prop :=
  s.ctl.mode ≠ .active →
    (∀ p ∈ s.pans, p.level = 0 ∧ p.state ≠ .heating ∧ p.boost = none) ∧
    s.recalls = [] ∧ s.levels.pause = false ∧ s.levels.pauseTimer = none ∧ s.levels.permit = .off ∧
    s.levels.autoOff = none

/-- The numbers of the pan table, as it stands. -/
def panNumbers (s : State) : List Nat := s.pans.map (fun p => p.number)

/-- Table 3-1: the footprint of a record is a list of coils, ascending and not empty, and its generators ascend. -/
def PanSound (p : Pan) : Prop :=
  p.footprint ≠ [] ∧ p.footprint.Pairwise (· < ·) ∧ (∀ c ∈ p.footprint, c < 48) ∧
    p.gens.Pairwise (· < ·) ∧ ∀ g ∈ p.gens, g < 8

/-- R34, R38, R67: the table holds records with ascending numbers from 1 to 6, no coil lies in two footprints, the
demand order lists each number once and no other, and the recall list holds at most four entries. -/
def TableSound (s : State) : Prop :=
  (panNumbers s).Pairwise (· < ·) ∧ (∀ n ∈ panNumbers s, 1 ≤ n ∧ n ≤ 6) ∧ (∀ p ∈ s.pans, PanSound p) ∧
    s.pans.Pairwise (fun p q => ∀ c ∈ p.footprint, c ∉ q.footprint) ∧
    s.levels.demand.Perm (panNumbers s) ∧ s.recalls.length ≤ 4

/-- R122, R129: on each phase the grants keep within the budget of the frame, and the energy planned within 16 times
that budget. -/
def BudgetsKept (s : State) : Prop :=
  s.mains.l1.planned ≤ 16 * s.mains.l1.budget ∧ s.mains.l2.planned ≤ 16 * s.mains.l2.budget ∧
    s.alloc.l1.granted + s.alloc.l1.remaining = s.alloc.l1.budget ∧
    s.alloc.l2.granted + s.alloc.l2.remaining = s.alloc.l2.budget ∧
    s.alloc.l1.planned ≤ 16 * s.alloc.l1.budget ∧ s.alloc.l2.planned ≤ 16 * s.alloc.l2.budget

/-- R174, R175: the working settings lie in their ranges and keep their dependencies. -/
def SettingsFit (s : State) : Prop := s.store.settings.fit = true

/-- R76: an image gives a coil only a generator of its own half, and a generator at most four coils. -/
def ImageSound (image : List (Option Nat)) : Prop :=
  (∀ c < 48, ∀ g ∈ (image[c]?).getD none, g < 8 ∧ boardOf g = halfOf c) ∧
    (∀ g < 8, (coilSet image g).length ≤ 4)

/-- R76: both route images and the target of an operation are sound, no excluded coil is in the desired image, and
every generator's coils list is its coil set in the latched image. Besides, in HALT (R91) and during a reset (R93)
the desired image is all open, and the stage HALTED is that of HALT. -/
def RoutesSound (s : State) : Prop :=
  s.coils.length = 48 ∧ s.gens.length = 8 ∧
    ImageSound s.desiredImage ∧ ImageSound s.latchedImage ∧ ImageSound s.route.target ∧
    (∀ c < 48, (s.coil c).excluded = true → (s.coil c).desired = none) ∧
    (∀ g < 8, (s.gen g).coils = coilSet s.latchedImage g) ∧
    (s.ctl.mode = .halt ∨ s.resetting.isSome = true → ∀ c < 48, (s.coil c).desired = none) ∧
    (s.route.stage = .halted → s.ctl.mode = .halt)

/-- R86, R89, R100, R103, R115: what makes every latch safe. A line that has settled, or is about to, or stands in a reset,
is down, and once settled none of its generators runs; a generator with a stop pending is not RUNNING and is in the wait
set, but in HALT; from the start of an operation to its latch the changed generators are those whose coil set changes,
each marked and each outside the wait set not RUNNING; the wait set is empty once the transfer begins; the settle timer
runs only in SETTLING; and HALT's shift goes out on two settled lines. -/
def ChainQuiet (s : State) : Prop :=
  (∀ bd, (s.board bd).settled = true ∨ (s.board bd).lineDown.isSome = true ∨ s.resetting.isSome = true →
    (s.board bd).line = false) ∧
  (∀ bd, (s.board bd).settled = true → ∀ g < 8, boardOf g = bd → (s.gen g).state ≠ .running) ∧
  (∀ g < 8, (s.gen g).stopPending = true →
    (s.gen g).state ≠ .running ∧
      (s.route.stage = .halted ∨ s.route.stage = .stopWait ∧ g ∈ s.route.waitSet)) ∧
  (s.route.stage = .stopWait ∨ s.route.stage = .shifting →
    (∀ g < 8, g ∈ s.route.changed ↔ coilSet s.route.target g ≠ coilSet s.latchedImage g) ∧
    ∀ g ∈ s.route.changed, (s.gen g).inOperation = true ∧ (g ∉ s.route.waitSet → (s.gen g).state ≠ .running)) ∧
  (s.route.stage = .shifting → s.route.waitSet = []) ∧ (s.route.settleTimer.isSome = true → s.route.stage = .settling) ∧
  (s.route.haltShift ≠ .none → s.route.stage = .halted) ∧
  (s.route.haltShift = .shifting → s.boardA.settled = true ∧ s.boardB.settled = true)

/-- Table 9-1, R139, R147: a survey is under way exactly in SURVEY; the START timer runs only in START; a reset in
progress is one in START. -/
def ModesAgree (s : State) : Prop :=
  (s.ctl.mode = .survey ↔ s.survey.state ≠ .idle) ∧ (s.ctl.startTimer.isSome = true → s.ctl.mode = .start) ∧
    (s.resetting.isSome = true → s.ctl.mode = .start)

/-- R160: no input queue holds more than two frames. -/
def QueuesBounded (s : State) : Prop :=
  s.links.panel.link.queue.length ≤ 2 ∧ s.links.remote.link.queue.length ≤ 2 ∧
    s.links.genA.queue.length ≤ 2 ∧ s.links.genB.queue.length ≤ 2

/-- R130, R98: a generator's residue is 0, or below its P_full; so it is 0 while P_full is absent. -/
def ResiduesKept (s : State) : Prop :=
  ∀ g < 8, (s.gen g).residue = 0 ∨ (s.gen g).residue < (s.gen g).pFull.getD 0

/-- R178: what the exclusion area held is held still: no flag and no lock-down is ever cleared. -/
def ExclusionsKept (s t : State) : Prop :=
  (∀ c : Nat, s.store.exclusion[c]? = some true → t.store.exclusion[c]? = some true) ∧
    (s.store.lock = true → t.store.lock = true)

/-- R144, R146: HALT is left by a reset alone, and its cause stands. -/
def HaltStands (s t : State) : Prop :=
  s.ctl.mode = .halt → t.resetting.isSome = true ∨ (t.ctl.mode = .halt ∧ t.ctl.haltCause = s.ctl.haltCause)

/-- R143, R53, R73, R83, R111: how the leaving of ACTIVE leaves the pans, the recall list, the Level Unit, the desired
image, the generators' pans and retries, and the lines, whichever mode is its target. -/
def LeftBehind (s : State) : Prop :=
  (∀ p ∈ s.pans, p.level = 0 ∧ p.state ≠ .heating ∧ p.boost = none ∧ p.gens = [] ∧ p.starved = false) ∧
    s.recalls = [] ∧ s.levels.pause = false ∧ s.levels.pauseTimer = none ∧ s.levels.permit = .off ∧
    s.levels.autoOff = none ∧ (∀ k ∈ s.coils, k.desired = none) ∧
    (∀ x ∈ s.gens, x.pan = none ∧ x.retries = 0) ∧ s.boardA.line = false ∧ s.boardB.line = false

/-- R143, R111: the same after a leaving for STANDBY, where every retry timer is stopped too. -/
def ActiveLeft (s : State) : Prop := LeftBehind s ∧ ∀ x ∈ s.gens, x.retryTimer = .stopped

/-- R105, R111, R104: a board at a leaving of ACTIVE taken at the moment `left`: its line falls, a line that was asserted
starts its line-down timer, the stuck flag stays, and a board whose line has not settled is marked to free its FAULTED
generators when it does (the mark: log 21). -/
def BoardLeft (s t : State) (left : Nat) (bd : Board) : Prop :=
  (t.board bd).line = false ∧ (t.board bd).stuck = (s.board bd).stuck ∧
    (t.board bd).settled = (s.board bd).settled ∧
    (t.board bd).lineDown = (if (s.board bd).line = true then some (left + 5 * ms) else (s.board bd).lineDown) ∧
    (t.board bd).freeFaults = ((s.board bd).freeFaults || !(s.board bd).settled)

/-- R111: a generator at a leaving of ACTIVE: a FAULTED one whose board's line was already settled is IDLE with fault NONE
at once, unless it is unconfirmed; any other FAULTED one keeps its state and its fault, and a LOST one stays LOST. Its
retry timer is stopped, but for a generator that the report which led to HALT has then made FAULTED (R97, R106). -/
def GenLeft (s t : State) (g : Nat) : Prop :=
  ((s.gen g).state = .faulted → (s.board (boardOf g)).settled = true → (s.gen g).unconfirmed = false →
    (t.gen g).state = .idle ∧ (t.gen g).fault = .none) ∧
  ((s.gen g).state = .faulted → (s.board (boardOf g)).settled = false ∨ (s.gen g).unconfirmed = true →
    (t.gen g).state = .faulted ∧ (t.gen g).fault = (s.gen g).fault) ∧
  ((s.gen g).state = .lost → (t.gen g).state = .lost) ∧
  ((t.gen g).retryTimer = .stopped ∨
    (t.ctl.mode = .halt ∧ (s.gen g).state ≠ .faulted ∧ (t.gen g).state = .faulted))

/-- R83, R84, R91: the route record at a leaving of ACTIVE: an operation in flight goes on to STANDBY as it stands, one
starts for the all-open image where none is and a coil is latched, and HALT stops the Route Controller. -/
def RouteLeft (s t : State) : Prop :=
  (t.ctl.mode = .standby →
    (s.route.stage ≠ .ready → t.route = s.route) ∧
    (s.route.stage = .ready → (∀ c < 48, (s.coil c).latched = none) → t.route = s.route) ∧
    (s.route.stage = .ready → (∃ c < 48, (s.coil c).latched ≠ none) →
      t.route.target = List.replicate 48 none ∧ t.route.stage ≠ .ready)) ∧
  (t.ctl.mode = .halt → t.route.stage = .halted)

/-- R5, R142: the moment at which a step from `s` to `t` leaves ACTIVE: its end, but for an L1 edge that comes after its
edge timer has run out, where it is the moment of the running out (log 3). -/
def leavingMoment (s t : State) (c : Instr) : Nat :=
  match c, s.mains.l1.edgeTimer with
  | .zeroCrossEdge .l1 wait, some d => if d < s.now + wait then max s.now d else t.now
  | _, _ => t.now

/-- R137, R143: every effect of a leaving of ACTIVE at the moment `left`, from `s` to `t`. -/
def LeavingShows (s t : State) (left : Nat) : Prop :=
  LeftBehind t ∧ (∀ bd, BoardLeft s t left bd) ∧ (∀ g < 8, GenLeft s t g) ∧ RouteLeft s t ∧
    List.Forall₂ (fun p q => q.number = p.number ∧ q.state = if p.state = .heating then .placed else p.state)
      s.pans t.pans ∧
    ∀ p, holds (s.partner p).enabled .modeChanged = true → holds (t.partner p).captured .modeChanged = true

/-- R128: a generator has slots only while the device heats and the generator may drive every coil latched to it. -/
def SlotsAllowed (s : State) : Prop :=
  ∀ g < 8, 0 < (s.gen g).slots →
    s.ctl.mode = .active ∧ s.levels.pause = false ∧ s.store.settings.showroom = false ∧
      s.boardLink (boardOf g) = .present ∧ (s.board (boardOf g)).line = true ∧
      (s.gen g).state = .running ∧
      ∃ p ∈ s.pans, (s.gen g).pan = some p.number ∧ p.state = .heating ∧
        ∀ c ∈ (s.gen g).coils, c ∈ p.footprint ∧ (s.coil c).hot = false

/-! ### What the claims about commands speak of -/

/-- R161: the frame `f` stands at the front of a partner's input queue, with `rest` behind it, and can be taken. -/
def Ready (s : State) (p : Partner) (f : Frame) (rest : List Frame) : Prop :=
  s.resetting = none ∧ s.softReset = false ∧ (s.partner p).link.queue = f :: rest

/-- The frame at the front is a request of this kind, which the link may make, and its length is right (R162). -/
def ReadyFor (s : State) (p : Partner) (req : Request) (f : Frame) (rest : List Frame) : Prop :=
  Ready s p f rest ∧ f.kind = requestCode req ∧ (p = .remote → requestFromRemote req = true) ∧
    f.payload.length = requestLength req

/-- The command that takes a request of this kind from this link. -/
def commandOf (req : Request) (p : Partner) : Instr :=
  match req with
  | .hello => .hello p
  | .readStatus => .readStatus p
  | .readPans => .readPans p
  | .readCoils => .readCoils p
  | .readGenerators => .readGenerators p
  | .readEvents => .readEvents p
  | .clearEvents => .clearEvents p
  | .setEventEnable => .setEventEnable p
  | .readTable => .readTable p
  | .readSettings => .readSettings p
  | .setLevel => .setLevel p
  | .allOff => .allOff p
  | .setRemotePermit => .setRemotePermit p
  | .pause => .pause p
  | .resume => .resume p
  | .activate => .activate p
  | .deactivate => .deactivate p
  | .softReset => .softReset p
  | .surveyStart => .surveyStart p
  | .surveySuspend => .surveySuspend p
  | .surveyResume => .surveyResume p
  | .surveyAbort => .surveyAbort p
  | .writeShowroomRow => .writeShowroomRow p
  | .writeSetting => .writeSetting p
  | .writeLevelTable => .writeLevelTable p
  | .storeSettings => .storeSettings p
  | .setExclusion => .setExclusion p
  | .lockExclusion => .lockExclusion p

/-- The response to a frame: its tag, the outcome and the data (R162). -/
def responseTo (f : Frame) (r : Reply) (data : List Byte) : OutFrame := .response f.tag (answer r data)

/-- Events entered into one partner's set, one after another (R166). -/
def enterAll (es : List Event) (r : PartnerRec) : PartnerRec := es.foldl (fun x e => enterEvent e x) r

/-- A partner's record after a frame has been taken from its queue, events captured, and the response produced
before any notice they led to (R161, R166, R167). -/
def answeredRec (rest : List Frame) (es : List Event) (o : OutFrame) (r : PartnerRec) : PartnerRec :=
  produceAt r.produced.length o (enterAll es { r with link := { r.link with queue := rest } })

/-- The links after a partner's frame has been taken and answered, with these events captured on the way. -/
def linksAfter (s : State) (p : Partner) (rest : List Frame) (es : List Event) (o : OutFrame) : Links :=
  match p with
  | .panel =>
    { s.links with panel := answeredRec rest es o s.links.panel, remote := enterAll es s.links.remote }
  | .remote =>
    { s.links with panel := enterAll es s.links.panel, remote := answeredRec rest es o s.links.remote }

/-- The links after events have been captured. -/
def linksWith (s : State) (es : List Event) : Links :=
  { s.links with panel := enterAll es s.links.panel, remote := enterAll es s.links.remote }

/-- The state after a frame taken that changes nothing but the links: a refusal or a read. -/
def answered (s : State) (p : Partner) (f : Frame) (rest : List Frame) (r : Reply) (data : List Byte) : State :=
  { s with links := linksAfter s p rest [] (responseTo f r data) }

/-- R72: the auto-off timer once the pans and the pause flag are these, in the mode that stands. -/
def autoOffWith (s : State) (pans : List Pan) (pause : Bool) : Timer :=
  if s.ctl.mode = .active ∧ pause = false ∧ (∀ p ∈ pans, p.level = 0) then
    (match s.levels.autoOff with
      | some d => some d
      | none => some (s.now + s.store.settings.autoOffTime * sec))
  else none

/-- A board's record once its line is no longer wanted (R105, R103): an asserted line is deasserted and its
line-down timer started; a deasserted one stays as it is. -/
def lineDropped (now : Nat) (r : BoardRec) : BoardRec :=
  if r.line then { r with line := false, lineDown := some (now + stopDelay) } else r

/-- A pan at level 0 with no boost, PLACED if it was HEATING (R66, R71, R73). -/
def panOff (p : Pan) : Pan :=
  { p with
    level := 0, boost := none, boostCounted := 0
    state := if p.state = .heating then .placed else p.state }

/-- R94, R161: the frame `f` stands at the front of a board's input queue, the board being PRESENT or LATE. -/
def BoardReady (s : State) (bd : Board) (f : Frame) (rest : List Frame) : Prop :=
  s.resetting = none ∧ (s.boardLink bd).up = true ∧ (s.link (boardLinkId bd)).queue = f :: rest

/-- R180, R97: a part 1 at the front that joins the held part 0 to the report `r`. -/
def ReportReady (s : State) (bd : Board) (f : Frame) (rest : List Frame) (r : BoardReport) : Prop :=
  BoardReady s bd f rest ∧ f.kind = kindReport ∧ f.payload.length = 55 ∧ byteAt f.payload 0 = 1 ∧
    ∃ samples, (s.board bd).held = some (f.tag, samples) ∧ r = joinReport samples f.payload

/-- Table 6-2: what the frequency field `v` of a report is taken as. -/
def FrequencyTaken (v taken : Nat) : Prop :=
  (v < 200 → taken = 200) ∧ (200 ≤ v → v ≤ 750 → taken = v) ∧ (750 < v → taken = 750)

/-- Table 12-5, Table 6-2: what the generator block at byte `i` of a part 1 says. -/
def BlockSays (p : List Byte) (i : Nat) (x : GenReport) : Prop :=
  (x.driving = true ↔ 128 ≤ byteAt p i) ∧
  (byteAt p i % 128 = 0 → x.fault = .none) ∧ (byteAt p i % 128 = 1 → x.fault = .overcurrent) ∧
  (byteAt p i % 128 = 2 → x.fault = .bridgeHot) ∧ (byteAt p i % 128 = 3 → x.fault = .noLoad) ∧
  (4 ≤ byteAt p i % 128 → x.fault = .supply) ∧
  (numAt p (i + 1) = 0 → x.fMin = none) ∧
  (0 < numAt p (i + 1) → ∃ f, x.fMin = some f ∧ FrequencyTaken (numAt p (i + 1)) f) ∧
  (numAt p (i + 3) = 0xFFFF → x.pFull = none ∧ x.pFullFreq = none) ∧
  (numAt p (i + 3) ≠ 0xFFFF →
    x.pFull = some (min (numAt p (i + 3)) 4000) ∧
      ∃ f, x.pFullFreq = some f ∧ FrequencyTaken (numAt p (i + 5)) f)

/-- R180, Table 12-5, Table 6-2: what a report says whose part 0 gave the samples and whose part 1 has the payload `p`.
The samples are handed as reported. -/
def ReportSays (samples : List Nat) (p : List Byte) (r : BoardReport) : Prop :=
  r.samples = samples ∧
  r.temps.length = 24 ∧
  (∀ k < 24,
    (byteAt p (1 + k) = 255 → r.temps[k]? = some none) ∧
    (byteAt p (1 + k) ≠ 255 → r.temps[k]? = some (some (min (byteAt p (1 + k)) 250)))) ∧
  r.voltage = min (numAt p 25) 300 ∧
  r.gens.length = 4 ∧ ∀ k < 4, ∃ x, r.gens[k]? = some x ∧ BlockSays p (27 + 7 * k) x

/-- R138: the state once the leaving of START has been tested: with L1 VALID and neither board ABSENT, the START timer
stops and the mode becomes STANDBY. -/
def startTested (s : State) : State :=
  if s.ctl.mode = .start ∧ s.mains.l1.sync = .valid ∧ s.boardLink .a ≠ .absent ∧ s.boardLink .b ≠ .absent then
    { s with ctl := { s.ctl with mode := .standby, startTimer := none }, links := linksWith s [.modeChanged] }
  else s

/-- R105, R103: a board's record once its line has been judged, `wanted` being whether its conditions hold. -/
def lineJudged (now : Nat) (wanted : Bool) (r : BoardRec) : BoardRec :=
  if r.line = wanted then r
  else if wanted then { r with line := true, settled := false, lineDown := none, freeFaults := false }
  else { r with line := false, lineDown := some (now + 5 * ms) }

/-- R99: the report shows drive on a board whose line is deasserted and settled. -/
def DrivesAfterStop (s : State) (bd : Board) (r : BoardReport) : Prop :=
  (s.board bd).line = false ∧ (s.board bd).settled = true ∧ ∃ x ∈ r.gens, x.driving = true

/-- The state in which a generator rests once stopped: ARMED with coils latched, else IDLE (R101, R103, R107). -/
def stoppedState (x : Gen) : GenState := if x.coils = [] then .idle else .armed

/-- R107: a FAULTED generator that a report without a fault retries. -/
def MayRetry (x : Gen) : Prop :=
  x.state = .faulted ∧ x.fault ≠ .stuck ∧ x.retries < 3 ∧ x.retryTimer = .expired ∧ x.stopPending = false ∧
    x.inOperation = false

/-- R101: a generator with a stop pending after it has been confirmed: a STOPPING one outside an operation rests, any
other keeps its state. -/
def confirmed (x : Gen) : Gen :=
  { x with
    stopPending := false, stopTimer := none, unconfirmed := false
    state := if x.state = .stopping ∧ x.inOperation = false then stoppedState x else x.state }

/-- R86: the generators of which `stopped` holds are reported stopped: they leave the wait set, and when it becomes
empty the transfer begins. -/
def StopsReported (s t : State) (stopped : Nat → Prop) : Prop :=
  (s.route.stage = .stopWait →
    (∀ g, g ∈ t.route.waitSet ↔ g ∈ s.route.waitSet ∧ ¬stopped g) ∧
    t.route = { s.route with
      waitSet := t.route.waitSet, stage := if t.route.waitSet = [] then .shifting else .stopWait } ∧
    t.out = s.out ++ (if t.route.waitSet = [] then [.shift (chainWord s.route.target)] else [])) ∧
  (s.route.stage ≠ .stopWait → t.route = s.route ∧ t.out = s.out)

/-- R101, R104, R105: the generators of a board that `named` holds of have been confirmed: of them, those with a stop
pending, and no others, are confirmed and reported stopped; with all four named the stuck flag is clear, and where it
was set the line has been judged. -/
def StopsConfirmed (s t : State) (bd : Board) (named : Nat → Bool) : Prop :=
  (∀ g < 8, t.gen g =
    if boardOf g = bd ∧ named g = true ∧ (s.gen g).stopPending = true then confirmed (s.gen g) else s.gen g) ∧
  StopsReported s t (fun g => g < 8 ∧ boardOf g = bd ∧ named g = true ∧ (s.gen g).stopPending = true) ∧
  t.board bd =
    (if (∀ g ∈ gensOf bd, named g = true) ∧ (s.board bd).stuck = true then
      lineJudged s.now
        (decide (s.ctl.mode = .active) && !s.store.settings.showroom && (s.boardLink bd).up)
        { s.board bd with stuck := false }
    else s.board bd) ∧
  (∀ other, other ≠ bd → t.board other = s.board other) ∧
  t = { s with gens := t.gens, route := t.route, out := t.out, boardA := t.boardA, boardB := t.boardB }

/-- R85: a changed generator counts as stopped as an operation starts. -/
def countsStopped (s : State) (g : Nat) : Bool :=
  decide ((s.gen g).state = .idle) || decide ((s.gen g).state = .armed) || (s.board (boardOf g)).settled

/-- R100: a generator that a stop order names, `wait` being the wait set. -/
def stopNamed (s : State) (wait : List Nat) (g : Nat) : Bool :=
  decide (g ∈ wait) && (s.boardLink (boardOf g)).up && !(s.gen g).stopPending &&
    (decide ((s.gen g).state = .running) || decide ((s.gen g).state = .faulted))

/-- R100, Table 12-2: the stop order of a board, when it names a generator. -/
def stopOrder (s : State) (wait : List Nat) (bd : Board) : List Output :=
  if ∃ g ∈ gensOf bd, stopNamed s wait g = true then
    [.frame (boardLinkId bd) (frameBytes 0x61 0
      [byteOf (((gensOf bd).map (fun g => if stopNamed s wait g then 2 ^ positionOf g else 0)).sum)])]
  else []

/-- R84, R85, R100, R87: the test of R84 has been made: with the stage READY and the images apart an operation has
started, its stop orders sent, and with nothing to wait for its transfer begun. -/
def OperationTested (s t : State) : Prop :=
  (¬(s.route.stage = .ready ∧ s.desiredImage ≠ s.latchedImage) → t = s) ∧
  (s.route.stage = .ready → s.desiredImage ≠ s.latchedImage →
    t.route.changed = (List.range 8).filter (fun g => coilSet s.desiredImage g ≠ coilSet s.latchedImage g) ∧
    t.route.waitSet = t.route.changed.filter (fun g => !countsStopped s g) ∧
    t.route = { s.route with
      target := s.desiredImage, changed := t.route.changed, waitSet := t.route.waitSet
      stage := if t.route.waitSet = [] then .shifting else .stopWait } ∧
    (∀ g < 8, t.gen g = { s.gen g with
      inOperation := (s.gen g).inOperation || decide (g ∈ t.route.changed)
      state := if stopNamed s t.route.waitSet g = true ∧ (s.gen g).state = .running then .stopping else (s.gen g).state
      stopPending := (s.gen g).stopPending || stopNamed s t.route.waitSet g
      stopTimer := if stopNamed s t.route.waitSet g then some (s.now + 40 * ms) else (s.gen g).stopTimer }) ∧
    t.out = s.out ++ stopOrder s t.route.waitSet .a ++ stopOrder s t.route.waitSet .b ++
      (if t.route.waitSet = [] then [.shift (chainWord s.desiredImage)] else []) ∧
    t = { s with gens := t.gens, route := t.route, out := t.out })

/-! ### The survey and the intakes -/

/-- R16, R17, R24, R25, R152, R153: an intake has been taken: each coil of it that is not excluded has its sample and
its temperature, COIL_HOT is captured for one that has become hot, and the samples have reached the survey, which in
RUNNING one above its baseline + T_p suspends, and which in SUSPENDED notes one above the clear threshold. -/
def IntakeTaken (reading : Nat → Option Reading) (s t : State) : Prop :=
  (∀ c < 48, (reading c = none ∨ (s.coil c).excluded = true) → t.coil c = s.coil c) ∧
  (∀ c < 48, ∀ r, reading c = some r → (s.coil c).excluded = false →
    t.coil c = takeTemp s.store.settings r.temp (takeSample s.store.settings r.sample (s.coil c)) ∧
    ((s.coil c).hot = false → (t.coil c).hot = true → ∀ p, holds (s.partner p).enabled .coilHot = true →
      holds (t.partner p).captured .coilHot = true)) ∧
  (s.survey.state = .idle → t.survey = s.survey) ∧
  ((∀ c < 48, ∀ r, reading c = some r → (s.coil c).excluded = false →
      min r.sample 1023 ≤ (s.coil c).baseline + s.store.settings.tp) →
    s.survey.state = .running → s.survey.samples.length = 48 →
    t.survey = { s.survey with samples := t.survey.samples } ∧
      ∀ c < 48, t.survey.samples[c]? = if (s.coil c).excluded = true then s.survey.samples[c]?
        else match reading c with
          | none => s.survey.samples[c]?
          | some r => some (some (min r.sample 1023))) ∧
  ((∃ c < 48, ∃ r, reading c = some r ∧ (s.coil c).excluded = false ∧
      (s.coil c).baseline + s.store.settings.tp < min r.sample 1023) →
    s.survey.state = .running →
    t.survey = { s.survey with
      state := .suspended, cause := some .placement, timer := some (s.now + 300 * sec), opened := false, clear := 0
      samples := t.survey.samples, exceeded := t.survey.exceeded }) ∧
  (s.survey.state = .suspended → s.survey.samples.length = 48 →
    t.survey = { s.survey with samples := t.survey.samples, exceeded := t.survey.exceeded } ∧
      (∀ c < 48, t.survey.samples[c]? = if (s.coil c).excluded = true then s.survey.samples[c]?
        else match reading c with
          | none => s.survey.samples[c]?
          | some r => some (some (min r.sample 1023))) ∧
      (t.survey.exceeded = true ↔ s.survey.exceeded = true ∨
        ∃ c < 48, ∃ r, reading c = some r ∧ (s.coil c).excluded = false ∧
          (s.coil c).baseline + max 1 (s.store.settings.tp - s.store.settings.hyst) < min r.sample 1023))

/-- R30: what the showroom table gives a coil at a frame start, at 25 °C. -/
def tableReading (s : State) (c : Nat) : Option Reading :=
  some { sample := (s.store.showroomTable[c]?).getD 0, temp := some 25 }

/-- R152, R153: every coil that is not excluded has a frame sample. -/
def FrameWhole (s : State) : Prop :=
  ∀ c < 48, (s.coil c).excluded = false → ((s.survey.samples[c]?).getD none).isSome = true

/-- R152: the closing of a frame has been taken while RUNNING, `count` being the frames counted then and `sum c` a
coil's sum. -/
def RunningClosed (s t : State) (count : Nat) (sum : Nat → Nat) : Prop :=
  (count = s.survey.length →
    t.survey.state = .idle ∧ t.survey.last = .completed ∧ t.survey.sums = List.replicate 48 0 ∧
    t.survey.samples = List.replicate 48 none ∧ t.ctl = { s.ctl with mode := .standby } ∧
    (∀ c < 48, t.coil c = { s.coil c with
      window := [], average := none
      baseline := if (s.coil c).excluded = true then (s.coil c).baseline else sum c / s.survey.length }) ∧
    ∀ p, (holds (s.partner p).enabled .survey = true → holds (t.partner p).captured .survey = true) ∧
      (holds (s.partner p).enabled .modeChanged = true → holds (t.partner p).captured .modeChanged = true)) ∧
  (count ≠ s.survey.length →
    t.coils = s.coils ∧ t.ctl = s.ctl ∧
    t.survey = { s.survey with
      count := count, sums := t.survey.sums, samples := List.replicate 48 none, opened := true, exceeded := false } ∧
    ∀ c < 48, (t.survey.sums[c]?).getD 0 = sum c)

/-- R152, R153: the survey's part in a frame start has been taken. -/
def FrameClosed (s t : State) : Prop :=
  (s.survey.state = .idle → t.survey = s.survey ∧ t.coils = s.coils ∧ t.ctl = s.ctl) ∧
  (s.survey.state = .running →
    ((s.survey.opened = true ∧ FrameWhole s) →
      RunningClosed s t (s.survey.count + 1) (fun c => (s.survey.sums[c]?).getD 0 +
        if (s.coil c).excluded = true then 0 else ((s.survey.samples[c]?).getD none).getD 0)) ∧
    (¬(s.survey.opened = true ∧ FrameWhole s) →
      RunningClosed s t s.survey.count (fun c => (s.survey.sums[c]?).getD 0))) ∧
  (s.survey.state = .suspended →
    t.coils = s.coils ∧ t.ctl = s.ctl ∧
    ∃ clear, ((s.survey.opened = true ∧ FrameWhole s ∧ s.survey.exceeded = false) →
        clear = min 2 (s.survey.clear + 1)) ∧
      (¬(s.survey.opened = true ∧ FrameWhole s ∧ s.survey.exceeded = false) → clear = 0) ∧
      t.survey =
        (if clear = 2 ∧ s.survey.cause = some .placement then
          { s.survey with
            clear := clear, samples := List.replicate 48 none, opened := true, exceeded := false
            state := .running, cause := none, timer := none }
        else
          { s.survey with
            clear := clear, samples := List.replicate 48 none, opened := true, exceeded := false }))

/-! ### Edges, frames and budgets -/

/-- R112, R133, Table 12-4: a drive order's payload says of each generator of its board, by its state, HOLD, RUN with
the run flag clear, or RUN with it set and the pattern. -/
def DriveOrder (s : State) (bd : Board) (d : List Byte) : Prop :=
  d.length = 20 ∧ ∀ g < 8, boardOf g = bd → ∀ o, o = 5 * positionOf g →
    ((s.gen g).state ≠ .armed → (s.gen g).state ≠ .running →
      byteAt d o = 0 ∧ numAt d (o + 1) = 0 ∧ numAt d (o + 3) = 0) ∧
    ((s.gen g).state = .armed →
      byteAt d o = 1 ∧ numAt d (o + 1) = (s.gen g).ordered % 65536 ∧ numAt d (o + 3) = 0) ∧
    ((s.gen g).state = .running →
      byteAt d o = 3 ∧ numAt d (o + 1) = (s.gen g).ordered % 65536 ∧ numAt d (o + 3) = (s.gen g).pattern.toNat)

/-- R1 to R4: a phase record's sync fields before and after an edge at the time `at_`. -/
def SyncAfterEdge (at_ : Nat) (r r' : PhaseRec) : Prop :=
  r'.prevEdge = some at_ ∧ r'.edgeTimer = some (at_ + 25 * ms) ∧
    (r.sync = .absent →
      r'.sync = .acquiring ∧ r'.validCount = 0 ∧ r'.outCount = 0 ∧ r'.halfPeriod = 0) ∧
    (∀ e p, r.prevEdge = some e → p = (at_ - e) / 10 →
      (r.sync = .acquiring → 750 ≤ p ∧ p ≤ 1100 →
        r'.halfPeriod = p ∧ r'.validCount = r.validCount + 1 ∧ r'.outCount = 0 ∧
          r'.sync = (if 8 ≤ r.validCount + 1 then .valid else .acquiring)) ∧
      (r.sync = .acquiring → ¬(750 ≤ p ∧ p ≤ 1100) →
        r'.halfPeriod = r.halfPeriod ∧ r'.validCount = 0 ∧ r'.outCount = r.outCount ∧ r'.sync = .acquiring) ∧
      (r.sync = .valid → 750 ≤ p ∧ p ≤ 1100 →
        r'.halfPeriod = p ∧ r'.validCount = r.validCount ∧ r'.outCount = 0 ∧ r'.sync = .valid) ∧
      (r.sync = .valid → ¬(750 ≤ p ∧ p ≤ 1100) →
        r'.halfPeriod = r.halfPeriod ∧
          (r.outCount + 1 < 3 → r'.validCount = r.validCount ∧ r'.outCount = r.outCount + 1 ∧ r'.sync = .valid) ∧
          (3 ≤ r.outCount + 1 → r'.validCount = 0 ∧ r'.outCount = 0 ∧ r'.sync = .acquiring)))

/-- R5: a phase record's sync fields after its edge timer has expired. -/
def SyncAbsent (r : PhaseRec) : Prop :=
  r.sync = .absent ∧ r.validCount = 0 ∧ r.outCount = 0 ∧ r.halfPeriod = 0 ∧ r.prevEdge = none ∧ r.edgeTimer = none

/-- The edge timer of a phase has not run out before the time `at_`. -/
def EdgeInTime (s : State) (ph : Phase) (at_ : Nat) : Prop := ∀ d, (s.phase ph).edgeTimer = some d → at_ ≤ d

/-- R13, Table 1-5: a phase's cause and budget at a frame start, from its sync state, its voltage, its report age
and its limit. -/
def BudgetRule (r : PhaseRec) : Prop :=
  (r.sync ≠ .valid → r.cause = .noSync ∧ r.budget = 0) ∧
    (r.sync = .valid → r.voltage = none → r.cause = .noVoltage ∧ r.budget = 0) ∧
    (∀ v, r.sync = .valid → r.voltage = some v →
      (3 ≤ r.reportAge → r.cause = .stale ∧ r.budget = 0) ∧
      (r.reportAge < 3 → (v < 176 ∨ 276 < v) → r.cause = .voltageRange ∧ r.budget = 0) ∧
      (r.reportAge < 3 → 176 ≤ v → v ≤ 276 → r.cause = .none ∧ r.budget = r.limit * v / 10))

end Sys2Proof.Safety
end

