-- ==== Sys2Proof/Safety/Records.lean ====
section
/-! DEFINITION. The records as partners read them (12.3), field by field: which byte or bit of a response holds which
field of the state. A number wider than its field shows its low bits. -/

namespace Sys2Proof.Safety

open Sys2Proof.Machine

/-- Table 12-10: the member of an enumeration that a code names, the codes counting from 0. -/
def Coded {α : Type} (members : List α) (code : Nat) (x : α) : Prop := members[code]? = some x

/-- The four-byte number of a payload at an offset. -/
def num4At (d : List Byte) (o : Nat) : Nat := 65536 * numAt d o + numAt d (o + 2)

/-- R74, R150, R159: the whole seconds a timer has left, 0 when it is stopped (log 17). -/
def secsLeft (now : Nat) : Timer → Nat
  | none => 0
  | some d => (d - now) / sec

/-- Table 12-8, section 0: one phase, 17 bytes from an offset. -/
def PhaseBytes (r : PhaseRec) (d : List Byte) (o : Nat) : Prop :=
  Coded [.absent, .acquiring, .valid] (byteAt d o) r.sync ∧ byteAt d (o + 1) = r.validCount % 256 ∧
    byteAt d (o + 2) = r.outCount % 256 ∧ numAt d (o + 3) = r.halfPeriod % 65536 ∧
    numAt d (o + 5) = r.voltage.getD 0 % 65536 ∧ byteAt d (o + 7) = r.reportAge % 256 ∧
    numAt d (o + 8) = r.limit % 65536 ∧ numAt d (o + 10) = r.budget % 65536 ∧
    Coded [.none, .noSync, .noVoltage, .stale, .voltageRange] (byteAt d (o + 12)) r.cause ∧
    num4At d (o + 13) = r.planned % 4294967296

/-- Table 12-8, section 4: one board. -/
def BoardBits (s : State) (bd : Board) (v : Nat) : Prop :=
  Coded [.absent, .present, .late, .lost] (v % 4) (s.boardLink bd) ∧ v.testBit 2 = (s.board bd).line ∧
    v.testBit 3 = (s.board bd).stuck ∧ v.testBit 4 = (s.board bd).settled ∧ v < 32

/-- Table 12-8, section 5: one phase, 11 bytes from an offset. -/
def AllocBytes (a : PhaseAlloc) (d : List Byte) (o : Nat) : Prop :=
  numAt d o = a.budget % 65536 ∧ numAt d (o + 2) = a.granted % 65536 ∧ numAt d (o + 4) = a.remaining % 65536 ∧
    num4At d (o + 6) = a.planned % 4294967296 ∧ byteAt d (o + 10) = a.removed % 256

/-- Table 12-8, section 6: the mode and the survey. -/
def ModeBytes (s : State) (d : List Byte) : Prop :=
  Coded [.start, .standby, .active, .survey, .halt] (byteAt d 0) s.ctl.mode ∧
    Coded [.none, .routeReadback, .driveAfterStop] (byteAt d 1) s.ctl.haltCause ∧
    byteAt d 2 = secsLeft s.now s.ctl.startTimer % 256 ∧
    Coded [.powerOn, .resetLine, .softReset] (byteAt d 3 % 4) s.ctl.startCause ∧
    (byteAt d 3).testBit 2 = s.ctl.defaulted ∧ (byteAt d 4).testBit 0 = s.ctl.wasHalted ∧
    Coded [.none, .routeReadback, .driveAfterStop] (byteAt d 4 / 2) s.ctl.lastHalt ∧
    Coded [.idle, .running, .suspended] (byteAt d 5) s.survey.state ∧
    Coded [none, some .placement, some .request] (byteAt d 6) s.survey.cause ∧
    byteAt d 7 = s.survey.length % 256 ∧ byteAt d 8 = s.survey.count % 256 ∧ byteAt d 9 = s.survey.clear % 256 ∧
    numAt d 10 = secsLeft s.now s.survey.timer % 65536 ∧
    Coded [.none, .completed, .abortedRequest, .abortedTimeout, .abortedBoard, .abandoned] (byteAt d 12) s.survey.last ∧
    Coded [false, true] (byteAt d 13) s.store.settings.showroom

/-- Table 12-8: the sections of the status record. -/
def SectionBytes (s : State) (section_ : Nat) (d : List Byte) : Prop :=
  match section_ with
  | 0 => d.length = 34 ∧ PhaseBytes s.mains.l1 d 0 ∧ PhaseBytes s.mains.l2 d 17
  | 1 =>
    d.length = 5 ∧ byteAt d 0 = (s.coils.filter (fun k => k.cls = .none)).length % 256 ∧
      byteAt d 1 = (s.coils.filter (fun k => k.cls = .partly)).length % 256 ∧
      byteAt d 2 = (s.coils.filter (fun k => k.cls = .full)).length % 256 ∧
      byteAt d 3 = (s.coils.filter (fun k => k.hot)).length % 256 ∧
      byteAt d 4 = (s.coils.filter (fun k => k.excluded)).length % 256
  | 2 =>
    d.length = 20 ∧ byteAt d 0 = (s.pans.filter (fun p => p.state = .forming)).length % 256 ∧
      byteAt d 1 = (s.pans.filter (fun p => p.state = .placed)).length % 256 ∧
      byteAt d 2 = (s.pans.filter (fun p => p.state = .heating)).length % 256 ∧
      byteAt d 3 = (s.pans.filter (fun p => p.state = .missing)).length % 256 ∧
      byteAt d 4 = s.recalls.length % 256 ∧
      Coded [.off, .any, .threshold] (byteAt d 5) s.store.settings.moveFilter ∧
      byteAt d 6 = s.store.settings.moveThreshold % 256 ∧ byteAt d 7 = s.levels.demand.length % 256 ∧
      (∀ i < 6, byteAt d (8 + i) = (s.levels.demand[i]?).getD 0 % 256) ∧
      Coded [false, true] (byteAt d 14) s.levels.pause ∧
      numAt d 15 = secsLeft s.now s.levels.pauseTimer % 65536 ∧
      Coded [.off, .reduceOnly, .adjust] (byteAt d 17) s.levels.permit ∧
      numAt d 18 = secsLeft s.now s.levels.autoOff % 65536
  | 3 =>
    d.length = 3 ∧ Coded [.ready, .stopWait, .shifting, .settling, .halted] (byteAt d 0) s.route.stage ∧
      byteAt d 1 = s.route.waitSet.length % 256 ∧ Coded [false, true] (byteAt d 2) s.route.compare
  | 4 => d.length = 2 ∧ BoardBits s .a (byteAt d 0) ∧ BoardBits s .b (byteAt d 1)
  | 5 => d.length = 22 ∧ AllocBytes s.alloc.l1 d 0 ∧ AllocBytes s.alloc.l2 d 11
  | 6 => d.length = 14 ∧ ModeBytes s d
  | 7 =>
    d.length = 2 ∧ Coded [.absent, .present, .late, .lost] (byteAt d 0) s.links.panel.link.state ∧
      Coded [.absent, .present, .late, .lost] (byteAt d 1) s.links.remote.link.state
  | _ => False

/-- Table 12-6: a pan record as read. -/
def PanBytes (p : Pan) (d : List Byte) : Prop :=
  d.length = 21 ∧ byteAt d 0 = p.number % 256 ∧
    Coded [.forming, .placed, .heating, .missing] (byteAt d 1 % 4) p.state ∧
    Coded [.panel, .remote, .recalled] (byteAt d 1 / 4 % 4) p.source ∧
    (byteAt d 1).testBit 4 = p.limited ∧ (byteAt d 1).testBit 5 = p.starved ∧ (byteAt d 1).testBit 6 = p.recalled ∧
    (byteAt d 1).testBit 7 = false ∧
    (PanSound p →
      (∀ c < 48, (byteAt d (2 + c / 8)).testBit (c % 8) = p.footprint.contains c) ∧
      ∀ i < 8, (byteAt d 20).testBit i = p.gens.contains i) ∧
    byteAt d 8 = p.row % 256 ∧ byteAt d 9 = p.col % 256 ∧ byteAt d 10 = p.level % 256 ∧
    byteAt d 11 = p.effective % 256 ∧ numAt d 12 = p.boost.getD 0 % 65536 ∧ numAt d 14 = p.request % 65536 ∧
    numAt d 16 = p.grant % 65536 ∧ numAt d 18 = p.delivered % 65536

/-- R31: a coil is ROUTED when its latched generator serves a pan in whose footprint it lies. -/
def RoutedTo (s : State) (c : Nat) : Prop :=
  ∃ g n p, (s.coil c).latched = some g ∧ (s.gen g).pan = some n ∧ findPan s.pans n = some p ∧ c ∈ p.footprint

/-- R31, Table 2-5: a coil's drive view. -/
def ViewOf (s : State) (c : Nat) (v : DriveView) : Prop :=
  ((s.coil c).excluded = true → v = .excluded) ∧
    ((s.coil c).excluded = false → RoutedTo s c → v = .routed) ∧
    ((s.coil c).excluded = false → ¬RoutedTo s c → (s.coil c).latched ≠ none → v = .stale) ∧
    ((s.coil c).excluded = false → (s.coil c).latched = none →
      v = if (s.coil c).pan = none then .free else .held)

/-- Table 12-7: a coil summary as read. -/
def CoilBytes (s : State) (c : Nat) (d : List Byte) : Prop :=
  d.length = 5 ∧ byteAt d 0 = (s.coil c).temp.getD 255 % 256 ∧
    (∃ v, ViewOf s c v ∧ Coded [.free, .held, .routed, .stale, .excluded] (numAt d 1 / 8192) v) ∧
    (numAt d 1).testBit 12 = (s.coil c).hot ∧
    Coded [.none, .partly, .full] (numAt d 1 / 1024 % 4) (s.coil c).cls ∧ numAt d 1 % 1024 = (s.coil c).cover % 1024 ∧
    numAt d 3 / 8192 = (match (s.coil c).latched with | none => 0 | some g => g % 4 + 1) ∧
    numAt d 3 / 1024 % 8 = (s.coil c).pan.getD 0 % 8 ∧ numAt d 3 % 1024 = (s.coil c).baseline % 1024

/-- A record's bytes as one number, the first byte being the most significant. -/
def wholeNum (d : List Byte) : Nat := d.foldl (fun n b => 256 * n + b.toNat) 0

/-- Table 12-9: a generator record as read. -/
def GenBytes (s : State) (g : Nat) (d : List Byte) : Prop :=
  d.length = 15 ∧ ∀ n, n = wholeNum d →
    Coded [.idle, .stopping, .routing, .armed, .running, .faulted, .lost] (n / 2 ^ 117) (s.gen g).state ∧
    Coded [.none, .overcurrent, .bridgeHot, .noLoad, .supply, .stuck] (n / 2 ^ 114 % 8) (s.gen g).fault ∧
    n / 2 ^ 112 % 4 = (s.gen g).retries % 4 ∧ n / 2 ^ 109 % 8 = (s.gen g).pan.getD 0 % 8 ∧
    (n.testBit 108 = true ↔ ∃ r x, (s.board (boardOf g)).lastReport = some r ∧
      r.gens[positionOf g]? = some x ∧ x.driving = true) ∧
    ((s.gen g).coils.Nodup → (∀ c ∈ (s.gen g).coils, c < 48 ∧ halfOf c = boardOf g) →
      ∀ i c, (coilsOf (boardOf g))[i]? = some c → n.testBit (84 + i) = (s.gen g).coils.contains c) ∧
    n / 2 ^ 68 % 2 ^ 16 = (s.gen g).pattern.toNat ∧ n / 2 ^ 58 % 1024 = (s.gen g).ordered % 1024 ∧
    n / 2 ^ 48 % 1024 = (s.gen g).fMin.getD 0 % 1024 ∧
    n / 2 ^ 38 % 1024 = (if (s.gen g).pFull = none then 0 else (s.gen g).pFullFreq.getD 0) % 1024 ∧
    n / 2 ^ 26 % 4096 = (s.gen g).pFull.getD 4095 % 4096 ∧ n / 2 ^ 14 % 4096 = (s.gen g).residue % 4096 ∧
    n / 4 % 4096 = (s.gen g).share % 4096 ∧ n % 4 = 0

end Sys2Proof.Safety
end

