-- ==== Sys2Proof/Safety/Shares.lean ====
section
/-! DEFINITION. What a share computation gives (chapter 7), in the spec's own terms: caps, requests, the split, the
grants, the shares, the frequency groups, the slots with the phase check, the residues and the delivered power. `s` is
the state the computation reads, `t` the one it leaves. -/

namespace Sys2Proof.Safety

open Sys2Proof.Machine

/-! ### Contributing coils and usable generators (R118) -/

/-- R118: a coil's weight. -/
def coilWeight (s : State) (c : Nat) : Nat := match (s.coil c).cls with | .none => 0 | .partly => 1 | .full => 2

/-- R118, R31: the contributing coils of a pan: those of its footprint that are latched to a generator serving it, not
excluded, not hot, and have a reading. -/
def contributors (s : State) (p : Pan) : List Nat :=
  (List.range 48).filter (fun c =>
    (match (s.coil c).latched with | none => false | some g => (s.gen g).pan = some p.number) &&
      decide (c ∈ p.footprint) && !(s.coil c).excluded && !(s.coil c).hot && (s.coil c).temp.isSome)

/-- R118: a generator usable for a pan; in showroom mode the link and the line are not asked for. -/
def usableFor (s : State) (p : Pan) (g : Nat) : Bool :=
  decide ((s.gen g).state = .armed ∨ (s.gen g).state = .running) && decide ((s.gen g).pan = some p.number) &&
    decide (p.state = .heating) && !(s.gen g).inOperation && (s.gen g).coils.all (fun c => decide (c ∈ contributors s p)) &&
    (s.store.settings.showroom || (decide (s.boardLink (boardOf g) = .present) && (s.board (boardOf g)).line))

/-- A pan's usable generators on one board, in ascending index. -/
def usableHere (s : State) (p : Pan) (bd : Board) : List Nat := (gensOf bd).filter (usableFor s p)

/-- R124: the weight of the coils latched to a generator, w_j. -/
def loadWeight (s : State) (g : Nat) : Nat := ((s.gen g).coils.map (coilWeight s)).sum

/-- R121: a pan's weight on one board, W_A or W_B: every coil latched to a usable generator contributes (R118). -/
def sideWeight (s : State) (p : Pan) (bd : Board) : Nat := ((usableHere s p bd).map (loadWeight s)).sum

/-! ### Caps, requests and grants (R119 to R122) -/

/-- R119: the pan may ask for power in this frame. -/
def MayAsk (s : State) (p : Pan) : Prop := s.ctl.mode = .active ∧ s.levels.pause = false ∧ p.state = .heating

/-- R120: the base cap. -/
def baseCap (s : State) (p : Pan) : Nat :=
  ((contributors s p).map (fun c => match (s.coil c).cls with
    | .none => 0
    | .partly => s.store.settings.rating / 2
    | .full => s.store.settings.rating)).sum

/-- R120: the cap of a pan that may ask, from the hottest of its contributing coils. -/
def CapIs (s : State) (p : Pan) (cap : Nat) : Prop :=
  (contributors s p = [] → cap = baseCap s p) ∧
  ∀ hottest, (∃ c ∈ contributors s p, (s.coil c).temp = some hottest) →
    (∀ c ∈ contributors s p, ∀ v, (s.coil c).temp = some v → v ≤ hottest) →
    (hottest < s.store.settings.tWarn → cap = baseCap s p) ∧
    (s.store.settings.tWarn ≤ hottest →
      cap = baseCap s p * (s.store.settings.tCut - hottest) / (s.store.settings.tCut - s.store.settings.tWarn))

/-- R119: a pan's cap and request. -/
def RequestMade (s : State) (p : Pan) (cap request : Nat) : Prop :=
  (MayAsk s p → CapIs s p cap ∧ request = min (s.store.settings.power p.level) cap) ∧
  (¬MayAsk s p → cap = 0 ∧ request = 0)

/-- R121: a pan's demand on the phase of one board. -/
def sideDemand (s : State) (p : Pan) (request : Nat) (bd : Board) : Nat :=
  if sideWeight s p .a + sideWeight s p .b = 0 then 0
  else
    match bd with
    | .a => request * sideWeight s p .a / (sideWeight s p .a + sideWeight s p .b)
    | .b => request - request * sideWeight s p .a / (sideWeight s p .a + sideWeight s p .b)

/-- R122: the pans ahead of a number in the demand order. -/
def pansAhead (s : State) (n : Nat) : List Nat := s.levels.demand.takeWhile (fun m => m ≠ n)

/-- R117: a phase's part of the allocation record. -/
def allocOn (t : State) (bd : Board) : PhaseAlloc := match bd with | .a => t.alloc.l1 | .b => t.alloc.l2

/-- R117, R122: `grant n bd` is what the pan `n` is granted on the phase of a board: its demand there, within what the
pans ahead of it leave of the budget. -/
def GrantsWalked (s t : State) (grant : Nat → Board → Nat) : Prop :=
  (∀ p ∈ s.pans, ∀ q ∈ t.pans, q.number = p.number →
    RequestMade s p q.cap q.request ∧
    (∀ bd, grant p.number bd = min (sideDemand s p q.request bd)
      ((s.phase (boardPhase bd)).budget - ((pansAhead s p.number).map (fun n => grant n bd)).sum)) ∧
    q.grant = grant p.number .a + grant p.number .b) ∧
  ∀ bd, (allocOn t bd).budget = (s.phase (boardPhase bd)).budget ∧
    (allocOn t bd).granted = (s.levels.demand.map (fun n => grant n bd)).sum ∧
    (allocOn t bd).remaining = (allocOn t bd).budget - (allocOn t bd).granted

/-! ### Shares and ordered frequencies (R124 to R126) -/

/-- R124: the part of a grant in proportion to a generator's weight. -/
def plainShare (s : State) (p : Pan) (grant : Nat) (bd : Board) (g : Nat) : Nat :=
  grant * loadWeight s g / sideWeight s p bd

/-- R124: the lowest-indexed usable generator of a pan on a board with a weight, which takes the remainder. -/
def firstLoaded (s : State) (p : Pan) (bd : Board) (g : Nat) : Prop :=
  0 < loadWeight s g ∧ ∀ h ∈ usableHere s p bd, h < g → loadWeight s h = 0

/-- R124: the grants of the pans are divided among their usable generators. -/
def SharesDivided (s t : State) (grant : Nat → Board → Nat) : Prop :=
  (∀ p ∈ s.pans, ∀ bd, ∀ g ∈ usableHere s p bd,
    (firstLoaded s p bd g →
      (t.gen g).share = plainShare s p (grant p.number bd) bd g +
        (grant p.number bd - ((usableHere s p bd).map (plainShare s p (grant p.number bd) bd)).sum)) ∧
    (¬firstLoaded s p bd g → (t.gen g).share = plainShare s p (grant p.number bd) bd g)) ∧
  ∀ g < 8, (∀ p ∈ s.pans, usableFor s p g = false) → (t.gen g).share = 0

/-- R125: the run set. -/
def InRunSet (s t : State) (g : Nat) : Prop := g < 8 ∧ 0 < (t.gen g).share ∧ (s.gen g).fMin ≠ none

/-- R125: two generators are neighbours. -/
def Neighbours (s : State) (g h : Nat) : Prop := ∃ c ∈ (s.gen g).coils, ∃ d ∈ (s.gen h).coils, adjacent c d = true

/-- R125: a generator lies in the frequency group of `g`: a chain of neighbours in the run set leads to it. -/
def Grouped (s t : State) (g h : Nat) : Prop :=
  Relation.ReflTransGen (fun x y => InRunSet s t y ∧ Neighbours s x y) g h

/-- R125, R126: the ordered frequencies: in the run set the highest f_min of the group; else, ARMED or RUNNING, its own
f_min, or 750 without one; in any other state the last. -/
def FrequenciesOrdered (s t : State) : Prop :=
  ∀ g < 8,
    (InRunSet s t g →
      (∃ h, Grouped s t g h ∧ (s.gen h).fMin = some (t.gen g).ordered) ∧
      ∀ h f, Grouped s t g h → (s.gen h).fMin = some f → f ≤ (t.gen g).ordered) ∧
    (¬InRunSet s t g → (s.gen g).state = .armed ∨ (s.gen g).state = .running →
      (t.gen g).ordered = (s.gen g).fMin.getD 750) ∧
    ((s.gen g).state ≠ .armed → (s.gen g).state ≠ .running → (t.gen g).ordered = (s.gen g).ordered)

/-! ### Slots, the phase check, residues and delivered power (R127 to R131) -/

/-- R127, R128: the P_full from which a generator's slots come; 0 where they do not: outside the run set, in showroom
mode, with P_full absent or 0, and in a settle frame. -/
def slotPower (s t : State) (g : Nat) : Nat :=
  if 0 < (t.gen g).share ∧ (s.gen g).fMin ≠ none ∧ s.store.settings.showroom = false ∧
      (s.gen g).pFullFreq.getD 0 ≤ (t.gen g).ordered
  then (s.gen g).pFull.getD 0 else 0

/-- R128: a generator's due energy. -/
def dueEnergy (s t : State) (g : Nat) : Nat := 16 * (t.gen g).share + (s.gen g).residue

/-- R128: the slots before the phase check. -/
def slotsDue (s t : State) (g : Nat) : Nat :=
  if slotPower s t g = 0 then 0 else min 16 (dueEnergy s t g / slotPower s t g)

/-- R129: the generator `h` loses slots before `g`: its pan stands later in the demand order, or the pan is the same
and its index is higher. -/
def losesBefore (s : State) (h g : Nat) : Bool :=
  match (s.gen h).pan, (s.gen g).pan with
  | some n, some m =>
    decide (s.levels.demand.idxOf m < s.levels.demand.idxOf n) || (decide (n = m) && decide (g < h))
  | _, _ => false

/-- R129: the phase check of one board's phase: the slots kept fit in 16 times the budget; a generator that lost any
lost them after all that go before it had lost theirs, and while the figure was still above. -/
def PhaseChecked (s t : State) (bd : Board) : Prop :=
  (∀ g ∈ gensOf bd, (t.gen g).slots ≤ slotsDue s t g) ∧
  ((gensOf bd).map (fun g => (t.gen g).slots * slotPower s t g)).sum ≤ 16 * (s.phase (boardPhase bd)).budget ∧
  (∀ g ∈ gensOf bd, (t.gen g).slots < slotsDue s t g →
    (∀ h ∈ gensOf bd, losesBefore s h g = true → (t.gen h).slots = 0) ∧
    16 * (s.phase (boardPhase bd)).budget <
      ((t.gen g).slots + 1) * slotPower s t g +
        (((gensOf bd).filter (fun h => losesBefore s g h)).map (fun h => slotsDue s t h * slotPower s t h)).sum) ∧
  (allocOn t bd).planned = ((gensOf bd).map (fun g => (t.gen g).slots * slotPower s t g)).sum ∧
  (t.phase (boardPhase bd)).planned = (allocOn t bd).planned ∧
  (allocOn t bd).removed = ((gensOf bd).map (fun g => slotsDue s t g - (t.gen g).slots)).sum

/-- R128, R130: the residues. -/
def ResiduesCarried (s t : State) : Prop :=
  ∀ g < 8, (t.gen g).residue =
    if slotPower s t g = 0 then 0
    else min (dueEnergy s t g - (t.gen g).slots * slotPower s t g) (slotPower s t g - 1)

/-- R131: the delivered power of every pan. -/
def PowerDelivered (s t : State) : Prop :=
  ∀ q ∈ t.pans, q.delivered =
    (((List.range 8).filter (fun g => (s.gen g).pan = some q.number)).map
      (fun g => (t.gen g).slots * slotPower s t g / 16)).sum

/-! ### The computation as a whole (R116) -/

/-- R117 to R122, R124 to R131: what the stages 1 to 8 give. -/
def SharesComputed (s t : State) : Prop :=
  (∃ grant : Nat → Board → Nat, GrantsWalked s t grant ∧ SharesDivided s t grant) ∧ FrequenciesOrdered s t ∧
    (∀ bd, PhaseChecked s t bd) ∧ ResiduesCarried s t ∧ PowerDelivered s t

end Sys2Proof.Safety
end

