-- ==== Sys2Proof/Safety/Tracking.lean ====
section
/-! DEFINITION. What a tracking point does (chapter 3, 5.2, 5.3), in the spec's own terms: which coils hang together,
the pan each belongs to, what becomes of every record, and which generators and coils the pans are given. `u` is the
state the pass reads, `v` the one it leaves, `w` the one the assignment leaves. -/

namespace Sys2Proof.Safety

open Sys2Proof.Machine

/-! ### Components and attribution (R36 to R39) -/

/-- R36: a covered coil. -/
def Covered (u : State) (c : Nat) : Prop := c < 48 ∧ (u.coil c).cls ≠ .none

/-- R36: the coil `k` lies between two coils of one row or one column. -/
def Between (c d k : Nat) : Prop :=
  (rowOf k = rowOf c ∧ rowOf k = rowOf d ∧
    (colOf c < colOf k ∧ colOf k < colOf d ∨ colOf d < colOf k ∧ colOf k < colOf c)) ∨
  (colOf k = colOf c ∧ colOf k = colOf d ∧
    (rowOf c < rowOf k ∧ rowOf k < rowOf d ∨ rowOf d < rowOf k ∧ rowOf k < rowOf c))

/-- R36: two coils are joined: adjacent, or with nothing but excluded coils between them, and at least one. -/
def JoinedCoils (u : State) (c d : Nat) : Prop :=
  adjacent c d = true ∨ ((∃ k, Between c d k) ∧ ∀ k, Between c d k → (u.coil k).excluded = true)

/-- R36: two coils of one component: a chain of covered coils, each joined to the next. -/
def Linked (u : State) (c d : Nat) : Prop :=
  Covered u c ∧ Relation.ReflTransGen (fun x y => Covered u x ∧ Covered u y ∧ JoinedCoils u x y) c d

/-- R37: a coil of a matched component: one that holds a FULL coil or at least three coils. -/
def Matched (u : State) (c : Nat) : Prop :=
  (∃ d, Linked u c d ∧ (u.coil d).cls = .full) ∨
    ∃ d e f, d < e ∧ e < f ∧ Linked u c d ∧ Linked u c e ∧ Linked u c f

/-- R38: a coil's component overlaps a pan. -/
def Overlaps (u : State) (c : Nat) (p : Pan) : Prop := ∃ d ∈ p.footprint, Linked u c d

/-- R39: the distance from a coil to a pan's centroid, in tenths. -/
def tenthsApart (c : Nat) (p : Pan) : Nat :=
  (10 * (rowOf c : Int) - p.row).natAbs + (10 * (colOf c : Int) - p.col).natAbs

/-- R38, R39: a coil is attributed to a pan: it lies in the pan's footprint, or in none and of the pans its component
overlaps this one is the nearest, the lowest-numbered where several are. -/
def Attributed (u : State) (c : Nat) (p : Pan) : Prop :=
  Matched u c ∧ (c ∈ p.footprint ∨
    ((∀ q ∈ u.pans, c ∉ q.footprint) ∧ Overlaps u c p ∧
      ∀ q ∈ u.pans, Overlaps u c q →
        tenthsApart c p < tenthsApart c q ∨ (tenthsApart c p = tenthsApart c q ∧ p.number ≤ q.number)))

/-- R38: `foot` gives every pan of the table, by number, its new footprint: the coils attributed to it, ascending. -/
def Footprints (u : State) (foot : Nat → List Nat) : Prop :=
  ∀ p ∈ u.pans, (foot p.number).Pairwise (· < ·) ∧ ∀ c, c ∈ foot p.number ↔ Attributed u c p

/-! ### Records (R41 to R47) -/

/-- R46: the sum over a footprint of a coordinate, each coil by its weight. -/
def weighed (u : State) (coord : Nat → Nat) (foot : List Nat) : Nat :=
  (foot.map (fun c => (match (u.coil c).cls with | .none => 0 | .partly => 1 | .full => 2) * coord c)).sum

/-- R46: one coordinate of a footprint's centroid, in tenths, rounded half up. -/
def centre (u : State) (coord : Nat → Nat) (foot : List Nat) : Nat :=
  (20 * weighed u coord foot + weighed u (fun _ => 1) foot) / (2 * weighed u (fun _ => 1) foot)

/-- R44: what a pan that is not found keeps of its footprint. -/
def keptOf (u : State) (p : Pan) : List Nat := p.footprint.filter (fun c => !(u.coil c).excluded)

/-- R41, R42, R44: a record stays in the table: it is found, or becomes MISSING with coils to keep. -/
def staysIn (u : State) (foot : Nat → List Nat) (p : Pan) : Bool :=
  foot p.number ≠ [] || ((p.state = .placed || p.state = .heating) && keptOf u p ≠ [])

/-- R44, R45: a pan is lifted: one not found that was MISSING, or whose every coil is excluded. -/
def liftedBy (u : State) (foot : Nat → List Nat) (p : Pan) : Bool :=
  foot p.number = [] && p.state ≠ .forming && (p.state = .missing || keptOf u p = [])

/-- R41: a FORMING record that is found is confirmed. -/
def confirmedBy (foot : Nat → List Nat) (p : Pan) : Bool := foot p.number ≠ [] && p.state = .forming

/-- R47: PAN_MOVED is captured for a pan found with this footprint, that was not FORMING. -/
def movedTo (u : State) (foot : List Nat) (p : Pan) : Bool :=
  p.state ≠ .forming && foot ≠ [] &&
    (match u.store.settings.moveFilter with
    | .off => false
    | .any => foot ≠ p.footprint
    | .threshold =>
      u.store.settings.moveThreshold ≤
        ((centre u rowOf foot : Int) - p.lastRow).natAbs + ((centre u colOf foot : Int) - p.lastCol).natAbs)

/-- R41 to R43, R46, R47: the record of a pan that is found, before the recall check. -/
def foundRecord (u : State) (foot : List Nat) (p : Pan) : Pan :=
  { p with
    prevFootprint := p.footprint, footprint := foot, row := centre u rowOf foot, col := centre u colOf foot
    state :=
      match p.state with
      | .forming => .placed
      | .placed => .placed
      | .heating => .heating
      | .missing => if 0 < p.level then .heating else .placed
    lastRow := if p.state = .forming ∨ movedTo u foot p = true then centre u rowOf foot else p.lastRow
    lastCol := if p.state = .forming ∨ movedTo u foot p = true then centre u colOf foot else p.lastCol }

/-- R41 to R44, R51: the record that a pan which stays leaves the pass with, `taken` being its recall entry. -/
def passRecord (u : State) (foot : Nat → List Nat) (taken : Option RecallEntry) (p : Pan) : Pan :=
  if foot p.number = [] then { p with state := .missing, footprint := keptOf u p }
  else
    match taken with
    | none => foundRecord u (foot p.number) p
    | some e =>
      { foundRecord u (foot p.number) p with
        level := e.level, boost := e.boost, boostCounted := 0, source := .recalled, recalled := true
        state := .heating }

/-! ### The recall list (R45, R49 to R51) -/

/-- R49: the entry of a pan that is lifted. -/
def entryOf (u : State) (p : Pan) : RecallEntry :=
  { level := p.level, boost := p.boost, liftTime := u.now
    size := if keptOf u p = [] then p.footprint.length else (keptOf u p).length }

/-- R45, R49: the recall list once the lifts of the pass are pushed, the last one lifted at the front. -/
def listAfterLifts (u : State) (foot : Nat → List Nat) : List RecallEntry :=
  if u.ctl.mode = .active then
    ((((u.pans.filter (liftedBy u foot)).filter (fun p => 0 < p.level)).map (entryOf u)).reverse ++ u.recalls).take 4
  else u.recalls

/-- R50, Table 3-5: an entry fits a footprint of this size. -/
def fitsEntry (size : Nat) (e : RecallEntry) : Bool := ((size : Int) - e.size).natAbs ≤ max 1 (e.size / 2)

/-- R50: the recall checks, in order, of pans confirmed with footprints of these sizes: the entry each takes, the
first that fits, and the list left in the end. -/
def recallChecks : List Nat → List RecallEntry → List (Option RecallEntry) × List RecallEntry
  | [], es => ([], es)
  | size :: sizes, es =>
    ((es.find? (fitsEntry size)) :: (recallChecks sizes (es.eraseP (fitsEntry size))).1,
      (recallChecks sizes (es.eraseP (fitsEntry size))).2)

/-- R50, R51: `taken` gives the entry that each pan confirmed at the pass takes, by number, and `left` is the list after
the recall checks, which run in ACTIVE alone. -/
def RecallsTaken (u : State) (foot : Nat → List Nat) (taken : Nat → Option RecallEntry) (left : List RecallEntry) :
    Prop :=
  (∀ p ∈ u.pans, confirmedBy foot p = false → taken p.number = none) ∧
  (u.ctl.mode = .active →
    ((u.pans.filter (confirmedBy foot)).map (fun p => taken p.number), left) =
      recallChecks ((u.pans.filter (confirmedBy foot)).map (fun p => (foot p.number).length)) (listAfterLifts u foot)) ∧
  (u.ctl.mode ≠ .active → (∀ n, taken n = none) ∧ left = listAfterLifts u foot)

/-! ### Candidates (R40) -/

/-- R40: the candidates, by their lowest coil: the matched components that overlap no pan. -/
def Candidates (u : State) (cands : List (List Nat)) : Prop :=
  (∀ f ∈ cands, f ≠ [] ∧ f.Pairwise (· < ·) ∧ ∀ c ∈ f, ∀ d, d ∈ f ↔ Linked u c d) ∧
  (∀ c, (∃ f ∈ cands, c ∈ f) ↔ Matched u c ∧ ∀ p ∈ u.pans, ¬Overlaps u c p) ∧
  cands.Pairwise (fun f g => ∃ c ∈ f, ∀ d ∈ g, c < d)

/-- R40, Table 3-1: the record of a candidate. -/
def formingRecord (u : State) (n : Nat) (foot : List Nat) : Pan :=
  { number := n, state := .forming, footprint := foot, prevFootprint := []
    row := centre u rowOf foot, col := centre u colOf foot, lastRow := centre u rowOf foot
    lastCol := centre u colOf foot, level := 0, source := .panel, boost := none, boostCounted := 0, request := 0
    cap := 0, grant := 0, delivered := 0, effective := 0, limited := false, gens := [], starved := false
    recalled := false }

/-- R40: the records the candidates open beside the records that stay: each takes the lowest number still free, and
those for which none is left stay unclaimed. -/
def openedRecords (u : State) (stayed : List Pan) (cands : List (List Nat)) : List Pan :=
  List.zipWith (formingRecord u)
    ([1, 2, 3, 4, 5, 6].filter (fun n => !(stayed.map (fun p => p.number)).contains n)) cands

/-! ### The pass as a whole (R35, R48) -/

/-- R35 to R51: a tracking pass on `u` leaves `v`. -/
def PassTaken (u v : State) : Prop :=
  ∃ (foot : Nat → List Nat) (taken : Nat → Option RecallEntry) (cands : List (List Nat)) (stayed opened : List Pan)
      (es : List Event),
    Footprints u foot ∧ RecallsTaken u foot taken v.recalls ∧ Candidates u cands ∧
    stayed = (u.pans.filter (staysIn u foot)).map (fun p => passRecord u foot (taken p.number) p) ∧
    opened = openedRecords u stayed cands ∧
    v.pans.Perm (stayed ++ opened) ∧ (panNumbers v).Pairwise (· < ·) ∧
    v.levels =
      { u.levels with
        demand :=
          ((stayed.filter (fun p => (taken p.number).isSome)).map (fun p => p.number)).reverse ++
            u.levels.demand.filter (fun n =>
              stayed.any (fun p => decide (p.number = n) && (taken n).isNone)) ++
            opened.map (fun p => p.number)
        autoOff := autoOffWith u v.pans u.levels.pause } ∧
    (∀ c < 48, ∃ pan, v.coil c = { u.coil c with pan := pan } ∧
      (∀ p ∈ v.pans, c ∈ p.footprint → pan = some p.number) ∧
      ((∀ p ∈ v.pans, c ∉ p.footprint) → pan = none)) ∧
    v.links = linksWith u es ∧
    (∀ e ∈ es, e ∈ [Event.panPlaced, .panMoved, .panLifted, .panRecalled]) ∧
    (Event.panPlaced ∈ es ↔ ∃ p ∈ u.pans, confirmedBy foot p = true) ∧
    (Event.panMoved ∈ es ↔ ∃ p ∈ u.pans, movedTo u (foot p.number) p = true) ∧
    (Event.panLifted ∈ es ↔ ∃ p ∈ u.pans, liftedBy u foot p = true) ∧
    (Event.panRecalled ∈ es ↔ ∃ p ∈ u.pans, (taken p.number).isSome = true) ∧
    v.coils.length = u.coils.length ∧
    v = { u with pans := v.pans, recalls := v.recalls, levels := v.levels, coils := v.coils, links := v.links }

/-! ### The assignment (R77 to R82) -/

/-- R77: a pan's routable coils in a half. -/
def routableIn (v : State) (p : Pan) (bd : Board) : List Nat :=
  p.footprint.filter (fun c => halfOf c = bd && !(v.coil c).hot && !(v.coil c).excluded)

/-- R79: a pan's need in a half, a quarter of its routable coils there rounded up. -/
def needIn (v : State) (p : Pan) (bd : Board) : Nat := ((routableIn v p bd).length + 3) / 4

/-- R78: the release of a generator that serves the pan `n`. -/
def releasedFrom (v : State) (g n : Nat) : Bool :=
  (match findPan v.pans n with
    | none => true
    | some p =>
      match p.state with
      | .forming => true
      | .placed => true
      | .heating => routableIn v p (boardOf g) = []
      | .missing => false) ||
    (v.gen g).state = .lost || ((v.gen g).state = .faulted && 3 ≤ (v.gen g).retries)

/-- R78: the pan a generator serves once the assignment has released. -/
def servesOn (v : State) (g : Nat) : Option Nat :=
  match (v.gen g).pan with
  | none => none
  | some n => if releasedFrom v g n then none else some n

/-- R79: of a HEATING pan's generators in a half, those beyond its need are released, the highest-indexed first: a
generator stays when fewer than the need stand below it. -/
def servesStill (v : State) (g : Nat) : Option Nat :=
  match servesOn v g with
  | none => none
  | some n =>
    match findPan v.pans n with
    | none => none
    | some p =>
      if p.state = .heating ∧
          needIn v p (boardOf g) ≤
            ((List.range g).filter (fun h => boardOf h = boardOf g && servesOn v h = some n)).length
      then none else some n

/-- R77: a free generator. -/
def isFree (v : State) (g : Nat) : Bool :=
  (v.gen g).state = .idle && (v.gen g).pan = none && v.boardLink (boardOf g) = .present

/-- R80: in demand order, each HEATING pan's number as often as generators of the half are lacking to its need. -/
def askedOf (v : State) (bd : Board) : List Nat :=
  v.levels.demand.flatMap (fun n =>
    match findPan v.pans n with
    | none => []
    | some p =>
      if p.state = .heating then
        List.replicate (needIn v p bd - ((gensOf bd).filter (fun g => servesStill v g = some n)).length) n
      else [])

/-- R80: the pan a generator serves from the end of the assignment: the free generators of a half, in ascending index,
go to the pans that ask, front of the demand order first. -/
def servesNow (v : State) (g : Nat) : Option Nat :=
  match servesStill v g with
  | some n => some n
  | none =>
    if isFree v g then
      (askedOf v (boardOf g))[((List.range g).filter (fun h => boardOf h = boardOf g && isFree v h)).length]?
    else none

/-- R81 step 1: a routable coil of the pan `p` keeps its desired generator, which still serves the pan. -/
def keepsGen (v w : State) (p : Pan) (c : Nat) : Option Nat :=
  match (v.coil c).desired with
  | none => none
  | some g => if (w.gen g).pan = some p.number then some g else none

/-- R81 step 2: whether the coil `d` is placed before the coil `c`. -/
def placedBefore (v : State) (d c : Nat) : Bool :=
  ((v.coil d).cls = .full && (v.coil c).cls ≠ .full) ||
    (((v.coil d).cls = .full ↔ (v.coil c).cls = .full) && d < c)

/-- R81 step 2: how many of a pan's coils a generator holds when the turn of the coil `c` comes. -/
def holdsSoFar (v w : State) (p : Pan) (c g : Nat) : Nat :=
  (p.footprint.filter (fun d =>
    (w.coil d).desired = some g && ((keepsGen v w p d).isSome || placedBefore v d c))).length

/-- R81 step 2: a generator on which the coil `c` of the pan `p` can be placed. -/
def TakesCoil (v w : State) (p : Pan) (c g : Nat) : Prop :=
  g < 8 ∧ boardOf g = halfOf c ∧ (w.gen g).pan = some p.number ∧ (v.gen g).state ≠ .faulted ∧
    (v.gen g).state ≠ .lost ∧ holdsSoFar v w p c g < 4

/-- R81: the generator `x` of a routable coil of the pan `p` in the new desired image. -/
def CoilPlaced (v w : State) (p : Pan) (c : Nat) (x : Option Nat) : Prop :=
  match keepsGen v w p c with
  | some g => x = some g
  | none =>
    (p.state ≠ .heating → x = none) ∧
    (p.state = .heating →
      (∀ g, x = some g → TakesCoil v w p c g ∧
        ∀ h, TakesCoil v w p c h → holdsSoFar v w p c g < holdsSoFar v w p c h ∨
          (holdsSoFar v w p c g = holdsSoFar v w p c h ∧ g ≤ h)) ∧
      (x = none → ∀ g, ¬TakesCoil v w p c g))

/-- R82: a pan that is starved, `w` saying which generators serve it. -/
def starvedNow (w : State) (p : Pan) : Bool :=
  p.state = .heating && (List.range 8).all (fun g => (w.gen g).pan ≠ some p.number)

/-- R77 to R82: an assignment on `v` leaves `w`. -/
def AssignmentTaken (v w : State) : Prop :=
  (∀ g < 8, w.gen g = { v.gen g with pan := servesNow v g }) ∧
  (∀ c < 48, ∃ x, w.coil c = { v.coil c with desired := x } ∧
    (∀ p ∈ v.pans, c ∈ p.footprint → (v.coil c).hot = false → (v.coil c).excluded = false → CoilPlaced v w p c x) ∧
    ((∀ p ∈ v.pans, c ∉ p.footprint) ∨ (v.coil c).hot = true ∨ (v.coil c).excluded = true → x = none)) ∧
  w.pans = v.pans.map (fun p =>
    { p with
      gens := (List.range 8).filter (fun g => (w.gen g).pan = some p.number)
      starved := starvedNow w p
      limited := p.limited || (starvedNow w p && !p.starved) }) ∧
  w.links = linksWith v
    (if v.pans.any (fun p => starvedNow w p && !p.starved && !p.limited) then [.panLimited] else []) ∧
  w.coils.length = v.coils.length ∧ w.gens.length = v.gens.length ∧
  w = { v with coils := w.coils, gens := w.gens, pans := w.pans, links := w.links }

/-- R83: the step taken at a tracking point in START, STANDBY or SURVEY. -/
def opened (v : State) : State :=
  { v with
    coils := v.coils.map (fun k => { k with desired := none })
    pans := v.pans.map (fun p => { p with gens := [], starved := false })
    gens := v.gens.map (fun x => { x with pan := none }) }

/-! ### The tracking point -/

/-- R26, R27: the excluded flags newly set are taken up. -/
def ExclusionsTakenUp (s u : State) : Prop :=
  (∀ c < 48, u.coil c =
    if (s.store.exclusion[c]?).getD false = true ∧ (s.coil c).excluded = false then
      { s.coil c with
        excluded := true, window := [], average := none, cover := 0, cls := .none, temp := none, hot := false }
    else s.coil c) ∧
  u.coils.length = s.coils.length ∧ u = { s with coils := u.coils }

/-- R27, R35, R77, R83, R84: a tracking point on `s` leaves `t`: the exclusions are taken up, the pass runs in every
mode, the assignment in ACTIVE; in START, STANDBY and SURVEY the image is opened, and in HALT nothing follows. -/
def TrackingPoint (s t : State) : Prop :=
  ∃ u v, ExclusionsTakenUp s u ∧ PassTaken u v ∧
    (s.ctl.mode = .active → ∃ w, AssignmentTaken v w ∧ OperationTested w t) ∧
    (s.ctl.mode = .start ∨ s.ctl.mode = .standby ∨ s.ctl.mode = .survey → OperationTested (opened v) t) ∧
    (s.ctl.mode = .halt → t = v)

end Sys2Proof.Safety
end

