-- ==== Sys2Proof/Certificates/Slice0/Obligations.lean ====
section
/-! DEFINITION. The statements for the provers. A statement about a command names the state and the operands under
which it completes and says what the next state holds; `t = { s with … }` in it is the frame: every field not named
there is that of `s`. Times are in microseconds; `s.elapseTo d` is `s` once the clock has reached `d`. -/

open Sys2Proof Sys2Proof.Machine Sys2Proof.Safety

/-! ### The queue, time and resets -/

/-- A step takes the command at the front of the queue (log 9). -/
def Obligations.StepTakesFrontCommand : Prop :=
  ∀ (s : State) (c : Instr) (rest : List Instr), s.pending = c :: rest → step s = exec c { s with pending := rest }

/-- On an empty queue a step takes the expiry that is due, or lets one microsecond pass, in which the boosts of R68
count. The model's own choice (log 1, log 4). -/
def Obligations.IdleStepTakesDueTimerOrTicks : Prop :=
  ∀ s : State, s.pending = [] →
    (∀ c, s.nextDue = some c → step s = exec c s) ∧
    (s.nextDue = none →
      step s = .next { s with
        now := s.now + 1
        pans := s.pans.map (fun p =>
          if p.state = .heating ∧ s.levels.pause = false ∧ p.boost.isSome = true then p.countBoost 1 else p) })

/-- R147, R15, R173: while a reset is in progress no command but the reset commands acts, an edge only letting its
time pass (log 7); a reset that arrives leaves the one in progress with its cause, but POWER_ON takes the cause over. -/
def Obligations.OnlyResetsActDuringReset : Prop :=
  ∀ (s : State) (c : Instr) (r : Resetting), s.resetting = some r → c ≠ .resetEnd →
    exec c s = .next (match c with
      | .zeroCrossEdge _ wait => s.elapse wait
      | .powerOn => { s with resetting := some { r with cause := .powerOn } }
      | _ => s)

/-- R147, R149, R115, R173, R177: POWER_ON, RESET_LINE and, once the response of the Soft Reset has been sent whole or
dropped, SOFT_RESET_START begin a reset: both lines fall, queues, pans and generators are at their reset values, what is
non-volatile stays, and a store in flight is cut off with an image that does not pass; while the response waits to be
sent or is being sent, SOFT_RESET_START begins nothing. The frame is FREE with both of its timers stopped, its index 0
the model's choice (log 25). That the mode is START and the HALT before is remembered from
the beginning of the reset is the model's deduction (log 32): R147 and R149 speak of its end. -/
def Obligations.ResetsBegin : Prop :=
  ∀ (s : State) (c : Instr) (cause : ResetCause), s.resetting = none →
    (((c = .powerOn ∧ cause = .powerOn) ∨ (c = .resetLine ∧ cause = .resetLine) ∨
      (c = .softResetStart ∧ cause = .softReset ∧ s.softReset = true ∧
        (∀ o ∈ s.links.panel.produced, o.isResetResponse = false) ∧
        ∀ o, s.links.panel.sending = some o → o.isResetResponse = false)) →
    ∃ t, exec c s = .next t ∧
      t.resetting = some { cause := cause, halted := s.ctl.mode = .halt } ∧
      t.boardA = BoardRec.initial ∧ t.boardB = BoardRec.initial ∧
      t.ctl = { s.ctl with mode := .start, startTimer := none, haltCause := .none } ∧
      t.pans = [] ∧ t.recalls = [] ∧ t.levels = Levels.initial ∧ t.route = Route.initial ∧
      t.survey = Survey.initial ∧ t.gens = List.replicate 8 Gen.initial ∧
      t.coils = List.replicate 48 Coil.initial ∧ t.softReset = false ∧
      t.mains.l1 = PhaseRec.initial ∧ t.mains.l2 = PhaseRec.initial ∧
      t.mains.frame = { state := .free, index := 0, freeTimer := none, trackTimer := none } ∧
      t.alloc = { l1 := PhaseAlloc.initial, l2 := PhaseAlloc.initial } ∧
      t.links = { panel := PartnerRec.initial, remote := PartnerRec.initial,
                  genA := LinkRec.initial, genB := LinkRec.initial } ∧
      t.store.settings = s.store.settings ∧ t.store.exclusion = s.store.exclusion ∧ t.store.lock = s.store.lock ∧
      t.store.showroomTable = List.replicate 48 0 ∧ t.store.storing = none ∧
      (s.store.storing = none → t.store.image = s.store.image) ∧
      (s.store.storing.isSome = true → t.store.image.passes = false) ∧
      t.now = s.now ∧ t.out = s.out ∧ t.pending = s.pending) ∧
    (c = .softResetStart →
      (∃ tag, .resetResponse tag ∈ s.links.panel.produced ∨ s.links.panel.sending = some (.resetResponse tag)) →
      exec c s = .next s)

/-- R147, R148, R149, R174, R26, R138: the end of a reset loads the settings or the defaults, writes the start and the
retained record, starts the START timer and the line-down timers, and starts the first free frame. That the index of a
free frame is 0 is the model's choice (log 25). -/
def Obligations.ResetEndLoadsAndStarts : Prop :=
  ∀ (s : State) (r : Resetting), s.resetting = some r → s.coils.length = 48 → s.survey.state = .idle →
    ∃ t, exec .resetEnd s = .next t ∧ t.resetting = none ∧
      t.ctl = { mode := .start, startTimer := some (s.now + 3 * sec), haltCause := .none, startCause := r.cause,
                defaulted := !s.store.image.passes,
                wasHalted := if r.cause = .powerOn then false else r.halted,
                lastHalt := if r.cause = .powerOn then .none else s.ctl.lastHalt } ∧
      t.store.settings =
        (if s.store.image.passes = true then s.store.image.contents.settings else Settings.default) ∧
      (∀ c < 48, (t.coil c).excluded = (s.store.exclusion[c]?).getD false ∧
        (t.coil c).baseline =
          (if s.store.image.passes = true then (s.store.image.contents.baselines[c]?).getD 64 else 64)) ∧
      t.store.image = s.store.image ∧ t.store.exclusion = s.store.exclusion ∧ t.store.lock = s.store.lock ∧
      t.boardA.lineDown = some (s.now + 5 * ms) ∧ t.boardB.lineDown = some (s.now + 5 * ms) ∧
      t.mains.frame =
        { state := .free, index := 0, freeTimer := some (s.now + 160 * ms), trackTimer := some (s.now + 80 * ms) }

/-- State.reset is the state that the end of a POWER_ON reset leaves, and it meets every law that the claims below
say each step keeps. The contents of a new part's non-volatile areas are the model's choice (log 8), and that State.reset
is the end of that reset is deduced (log 9). -/
def Obligations.ResetStateMeetsTheLaws : Prop :=
  exec .resetEnd (State.reset.toResetValues.withReset { cause := .powerOn, halted := false }) = .next State.reset ∧
    ModesAgree State.reset ∧ LinesFollow State.reset ∧ RestsOutsideActive State.reset ∧ TableSound State.reset ∧
    BudgetsKept State.reset ∧ SettingsFit State.reset ∧ RoutesSound State.reset ∧ ResiduesKept State.reset ∧
    QueuesBounded State.reset ∧ ChainQuiet State.reset

/-! ### Mains phases and the frame -/

/-- R1 to R4, R5, R6: an edge moves its phase's sync fields by the state the phase is in; an edge later than the 25 ms
of R5, as its operand `wait` times it (log 3), finds the phase ABSENT and is its first edge; the expiry of the edge timer
makes the phase ABSENT; and neither changes anything but those fields of L2 when it is on L2. -/
def Obligations.EdgesAndTimersMoveSyncState : Prop :=
  ∀ (s : State) (ph : Phase), s.resetting = none →
    (∀ wait, ∃ t, exec (.zeroCrossEdge ph wait) s = .next t ∧
      (EdgeInTime s ph (s.now + wait) → SyncAfterEdge (s.now + wait) (s.phase ph) (t.phase ph)) ∧
      ((∃ d, (s.phase ph).edgeTimer = some d ∧ s.now ≤ d ∧ d < s.now + wait) →
        (t.phase ph).sync = .acquiring ∧ (t.phase ph).validCount = 0 ∧ (t.phase ph).outCount = 0 ∧
          (t.phase ph).halfPeriod = 0 ∧ (t.phase ph).prevEdge = some (s.now + wait) ∧
          (t.phase ph).edgeTimer = some (s.now + wait + 25 * ms)) ∧
      (ph = .l2 → EdgeInTime s ph (s.now + wait) →
        t = { s.elapse wait with mains := { s.mains with l2 :=
              { s.mains.l2 with
                sync := t.mains.l2.sync, validCount := t.mains.l2.validCount, outCount := t.mains.l2.outCount,
                halfPeriod := t.mains.l2.halfPeriod, prevEdge := t.mains.l2.prevEdge,
                edgeTimer := t.mains.l2.edgeTimer } } })) ∧
    (∀ d, (s.phase ph).edgeTimer = some d →
      ∃ t, exec (.edgeTimerExpiry ph) s = .next t ∧ SyncAbsent (t.phase ph) ∧
        (ph = .l2 → t = { s.elapseTo d with mains := { s.mains with l2 :=
          { s.mains.l2 with
            sync := .absent, validCount := 0, outCount := 0, halfPeriod := 0, prevEdge := none,
            edgeTimer := none } } }))

/-- R9, R13, R142: when L1 loses sync, by an edge, by its timer, or by an edge that comes after the timer has run out,
the device leaves ACTIVE for STANDBY; in SYNCED or HANDOVER that event is the frame start of a free frame with an L1
budget of 0, and in FREE the frame goes on. The order of the two is free (log 12); that the index of a free frame is 0
is the model's choice (log 25). -/
def Obligations.LossOfL1StartsFreeFrame : Prop :=
  ∀ (s t : State) (c : Instr) (lost : Nat), s.resetting = none →
    ((∃ d, c = .edgeTimerExpiry .l1 ∧ s.mains.l1.edgeTimer = some d ∧ lost = max s.now d) ∨
      ∃ wait, c = .zeroCrossEdge .l1 wait ∧
        ((EdgeInTime s .l1 (s.now + wait) ∧ lost = s.now + wait) ∨
          ∃ d, s.mains.l1.edgeTimer = some d ∧ d < s.now + wait ∧ lost = max s.now d)) →
    exec c s = .next t → s.mains.l1.sync = .valid → t.mains.l1.sync ≠ .valid →
      (s.ctl.mode = .active → t.ctl.mode = .standby) ∧
      (s.mains.frame.state ≠ .free →
        t.mains.frame =
          { state := .free, index := 0, freeTimer := some (lost + 160 * ms), trackTimer := some (lost + 80 * ms) } ∧
        t.mains.l1.budget = 0 ∧ t.mains.l1.cause = .noSync) ∧
      (s.mains.frame.state = .free → t.mains.frame = s.mains.frame)

/-- R7, R8, R138: at the end of a free frame the frame state becomes HANDOVER with L1 VALID, and otherwise the next free
frame starts. An L1 edge moves L1's sync fields; once L1 has become VALID the leaving of START is tested, and with L1
VALID the edge starts a synced frame in HANDOVER, counts the synced frame, whose 8th edge is its tracking point and
whose 16th the next frame start, and leaves a free frame alone. That the tracking timer stands stopped in HANDOVER and
that the index of a free frame is 0 is the model's choice (log 25). -/
def Obligations.FramesFollowEachOther : Prop :=
  ∀ s : State, s.resetting = none →
    (∀ d, s.mains.frame.freeTimer = some d →
      (s.mains.l1.sync = .valid →
        exec .freeFrameExpiry s = .next { s.elapseTo d with
          mains := { s.mains with
            frame := { s.mains.frame with state := .handover, freeTimer := none, trackTimer := none } } }) ∧
      (s.mains.l1.sync ≠ .valid →
        exec .freeFrameExpiry s = .next (State.frameStart { s.elapseTo d with
          mains := { s.mains with
            frame :=
              { state := .free, index := 0, freeTimer := some (max s.now d + 160 * ms),
                trackTimer := some (max s.now d + 80 * ms) } } }))) ∧
    (∀ wait, EdgeInTime s .l1 (s.now + wait) →
      ∃ l1 u, SyncAfterEdge (s.now + wait) s.mains.l1 l1 ∧
        l1 = { s.mains.l1 with
          sync := l1.sync, validCount := l1.validCount, outCount := l1.outCount, halfPeriod := l1.halfPeriod,
          prevEdge := l1.prevEdge, edgeTimer := l1.edgeTimer } ∧
        u = (if s.mains.l1.sync ≠ .valid ∧ l1.sync = .valid then
            startTested { s.elapse wait with mains := { s.mains with l1 := l1 } }
          else { s.elapse wait with mains := { s.mains with l1 := l1 } }) ∧
        (l1.sync ≠ .valid → s.mains.l1.sync ≠ .valid → exec (.zeroCrossEdge .l1 wait) s = .next u) ∧
        (l1.sync = .valid →
          (s.mains.frame.state = .free → exec (.zeroCrossEdge .l1 wait) s = .next u) ∧
          (s.mains.frame.state = .handover →
            exec (.zeroCrossEdge .l1 wait) s = .next (State.frameStart { u with
              mains := { u.mains with frame := { s.mains.frame with state := .synced, index := 0 } } })) ∧
          (s.mains.frame.state = .synced → s.mains.frame.index < 15 → s.mains.frame.index ≠ 7 →
            exec (.zeroCrossEdge .l1 wait) s = .next { u with
              mains := { u.mains with frame := { s.mains.frame with index := s.mains.frame.index + 1 } } }) ∧
          (s.mains.frame.state = .synced → s.mains.frame.index = 7 →
            exec (.zeroCrossEdge .l1 wait) s = .next (State.trackingPoint { u with
              mains := { u.mains with frame := { s.mains.frame with index := 8 } } })) ∧
          (s.mains.frame.state = .synced → 15 ≤ s.mains.frame.index →
            exec (.zeroCrossEdge .l1 wait) s = .next (State.frameStart { u with
              mains := { u.mains with frame := { s.mains.frame with state := .synced, index := 0 } } }))))

/-- R11 to R14, R116, R30, R152: a frame start ages the reports, copies the current limit and fixes each phase's budget
and cause by Table 1-5; a budget that falls to 0 captures PHASE_FAULT where it is enabled. It is then handed to the
showroom intake and the survey, which with showroom mode off and the survey IDLE change nothing, and last to the share
computation, which reads what they leave (`u`). -/
def Obligations.FrameStartSetsBudgets : Prop :=
  ∀ s : State,
    (∃ u : State, s.frameStart = u.shareComputation ∧
      (∀ ph, BudgetRule (u.phase ph) ∧
        u.phase ph = { s.phase ph with
          reportAge := min 3 ((s.phase ph).reportAge + 1), limit := s.store.settings.currentLimit
          budget := (u.phase ph).budget, cause := (u.phase ph).cause, planned := 0 }) ∧
      u = { s with
        mains := { s.mains with l1 := u.mains.l1, l2 := u.mains.l2 }
        coils := u.coils, survey := u.survey, ctl := { s.ctl with mode := u.ctl.mode }, links := u.links } ∧
      (s.store.settings.showroom = false → s.survey.state = .idle →
        u.coils = s.coils ∧ u.survey = s.survey ∧ u.ctl = s.ctl ∧
          u.links =
            if (0 < s.mains.l1.budget ∧ u.mains.l1.budget = 0) ∨ (0 < s.mains.l2.budget ∧ u.mains.l2.budget = 0)
            then linksWith s [.phaseFault]
            else s.links)) ∧
    ∀ ph : Phase, BudgetRule (s.frameStart.phase ph) ∧
      (s.frameStart.phase ph).reportAge = min 3 ((s.phase ph).reportAge + 1) ∧
      (s.frameStart.phase ph).limit = s.store.settings.currentLimit ∧
      (s.frameStart.phase ph).voltage = (s.phase ph).voltage ∧ (s.frameStart.phase ph).sync = (s.phase ph).sync ∧
      (0 < (s.phase ph).budget → (s.frameStart.phase ph).budget = 0 →
        ∀ p, holds (s.partner p).enabled .phaseFault = true →
          holds (s.frameStart.partner p).captured .phaseFault = true)

/-- R8, R26, R27, R35 to R51, R77 to R84: what a tracking point does. The tracking timer's expiry is one, as the 8th edge
of a synced frame is: the excluded flags are taken up; the covered coils are grouped, each coil of a matched component
is attributed to a pan, every record takes its state, footprint and centroid, lifted pans enter the recall list and
confirmed ones are checked against it, candidates open records, the coils' pan fields are rewritten; and in ACTIVE the
assignment releases and grants generators and places the coils, in HALT nothing follows, and in any other mode the image
is opened; then the test for a routing operation is made, its stop orders going to board A first by the model's choice
(log 39). That a generator released serves no other pan in the same assignment, and that a pan becoming MISSING drops
excluded coils at once, is deduced (log 14, log 15). -/
def Obligations.TrackingTimerOpensTrackingPoint : Prop :=
  (∀ s : State, TableSound s → RoutesSound s → TrackingPoint s s.trackingPoint) ∧
  ∀ (s : State) (d : Nat), s.resetting = none → s.mains.frame.trackTimer = some d → s.coils.length = 48 →
    ∃ t, exec .trackingTimerExpiry s = .next t ∧ t.mains.frame = { s.mains.frame with trackTimer := none } ∧
      (∀ c < 48, (t.coil c).excluded = ((s.coil c).excluded || (s.store.exclusion[c]?).getD false)) ∧
      (∀ c < 48, (t.coil c).pan = (t.pans.find? (fun p => p.footprint.contains c)).map (fun p => p.number)) ∧
      (TableSound s → RoutesSound s →
        TrackingPoint
          { s.elapseTo d with mains := { s.mains with frame := { s.mains.frame with trackTimer := none } } } t)

/-! ### Sensing -/

/-- R17 to R20, R24: a coil that takes a sample: the window holds the newest 2^n samples limited to 1023, the average
is their mean rounded down, the cover figure lies from 0 to 1023, and the class moves by Table 2-3; a coil that takes a
temperature is hot at T_cut and above or without a reading, and not hot below T_cut − 10. -/
def Obligations.ReadingsMoveCoilRecords : Prop :=
  ∀ (st : Settings) (k : Coil),
    (∀ x, k.window.length ≤ 2 ^ st.avgExp → (∀ v ∈ k.window, v ≤ 1023) → ∀ k' c release,
      k' = takeSample st x k → c = k'.cover → release = (if st.hyst + 1 ≤ st.tp then st.tp - st.hyst else 1) →
      k'.window = (k.window ++ [min x 1023]).drop (k.window.length + 1 - 2 ^ st.avgExp) ∧
      (∀ v ∈ k'.window, v ≤ 1023) ∧ k'.average = some (k'.window.sum / k'.window.length) ∧
      c = k'.window.sum / k'.window.length - k.baseline ∧ c ≤ 1023 ∧
      (k.cls = .none → k'.cls = if st.tf ≤ c then .full else if st.tp ≤ c then .partly else .none) ∧
      (k.cls = .partly → k'.cls = if st.tf ≤ c then .full else if c < release then .none else .partly) ∧
      (k.cls = .full → k'.cls = if c < release then .none else if c + st.hyst < st.tf then .partly else .full)) ∧
    (∀ temp, (takeTemp st temp k).temp = temp ∧ (temp = none → (takeTemp st temp k).hot = true) ∧
      (∀ v, temp = some v →
        (st.tCut ≤ v → (takeTemp st temp k).hot = true) ∧
        (v + 10 < st.tCut → (takeTemp st temp k).hot = false) ∧
        (v < st.tCut → st.tCut ≤ v + 10 → (takeTemp st temp k).hot = k.hot)))

/-! ### The share computation -/

/-- R117 to R133, R112: what a share computation gives. With the pan table sound, each pan takes its cap and its request
from its contributing coils, the request is split between the phases by the usable weights and granted in demand order
within the budgets, the grants are divided into shares, the frequency groups are ordered at their highest f_min, the
slots follow from share, residue and P_full and are cut back by the phase check, and the residues and the delivered
power follow. In every state a generator has slots only while the device is ACTIVE and not paused, showroom mode is off,
its board is PRESENT with its line asserted, and it serves a HEATING pan with every coil latched to it in that pan's
footprint and none of them hot; a pan is limited when it is starved or granted less than it requests, and its effective
level follows; an ARMED or RUNNING generator is RUNNING exactly when it has slots, its pattern holds them, and any other
has none; a drive order that says so goes to each board that is PRESENT or LATE, board A's first by the model's choice
(log 39), PAN_LIMITED is captured where a limited field has changed, and nothing else changes but the results. -/
def Obligations.SharesKeepTheirBounds : Prop :=
  ∀ s : State,
    SlotsAllowed s.shareComputation ∧
      (TableSound s → s.gens.length = 8 → SharesComputed s s.shareComputation) ∧
      ((panNumbers s).Pairwise (· < ·) →
        ∀ p ∈ s.shareComputation.pans,
          p.grant ≤ p.request ∧ p.request ≤ s.store.settings.power p.level ∧ p.request ≤ p.cap) ∧
      (∀ t, t = s.shareComputation → s.gens.length = 8 →
        (∀ g < 8, ∀ x, x = t.gen g →
          x.slots ≤ 16 ∧ x.pattern = patternOf (positionOf g) x.slots ∧
          x = { s.gen g with
            state := x.state, ordered := x.ordered, share := x.share, slots := x.slots, residue := x.residue,
            pattern := x.pattern } ∧
          ((s.gen g).state = .armed ∨ (s.gen g).state = .running →
            x.state = if 0 < x.slots then .running else .armed) ∧
          ((s.gen g).state ≠ .armed → (s.gen g).state ≠ .running →
            x.state = (s.gen g).state ∧ x.ordered = (s.gen g).ordered ∧ x.share = 0 ∧ x.slots = 0 ∧
              x.residue = 0 ∧ x.pattern = 0)) ∧
        List.Forall₂ (fun p q =>
          q = { p with
            request := q.request, cap := q.cap, grant := q.grant, delivered := q.delivered, effective := q.effective,
            limited := p.starved || decide (q.grant < q.request) } ∧
          (s.ctl.mode = .active ∧ s.levels.pause = false ∧ p.state = .heating →
            (q.limited = false → q.effective = p.level) ∧
            (q.limited = true → q.effective ≤ 14 ∧
              (0 < q.effective → s.store.settings.power q.effective ≤ q.grant) ∧
              ∀ l, q.effective < l → l ≤ 14 → q.grant < s.store.settings.power l)) ∧
          (¬(s.ctl.mode = .active ∧ s.levels.pause = false ∧ p.state = .heating) →
            q.request = 0 ∧ q.effective = 0)) s.pans t.pans ∧
        (∃ orders : Board → List Byte, (∀ bd, DriveOrder t bd (orders bd)) ∧
          t.out = s.out ++
            (if (s.boardLink .a).up = true then [.frame .genA (frameBytes 0x60 0 (orders .a))] else []) ++
            (if (s.boardLink .b).up = true then [.frame .genB (frameBytes 0x60 0 (orders .b))] else [])) ∧
        t.links =
          (if t.pans.map (fun p => p.limited) = s.pans.map (fun p => p.limited) then s.links
          else linksWith s [.panLimited]) ∧
        t = { s with
          gens := t.gens, pans := t.pans, alloc := t.alloc, out := t.out, links := t.links
          mains := { s.mains with
            l1 := { s.mains.l1 with planned := t.mains.l1.planned }
            l2 := { s.mains.l2 with planned := t.mains.l2.planned } } })

/-- R132: a pattern has exactly as many entries on as the generator has slots. -/
def Obligations.PatternsHoldTheirSlots : Prop :=
  ∀ position slots : Nat, position < 4 → slots ≤ 16 →
    ((List.range 16).filter (fun k => (patternOf position slots).getLsbD k)).length = slots ∧
      (∀ k < 16, (patternOf position slots).getLsbD k =
        decide ((k + 4 * position) % 16 * slots / 16 < ((k + 4 * position) % 16 + 1) * slots / 16))

/-- R117, R122, R129: every step keeps, on each phase, the planned energy within 16 times the frame's budget and the
granted power within the budget. -/
def Obligations.PhaseBudgetsKept : Prop := ∀ s t : State, BudgetsKept s → step s = .next t → BudgetsKept t

/-- R130, R98, R128: every step keeps every residue below one slot's energy. -/
def Obligations.ResiduesStayBelowOneSlot : Prop := ∀ s t : State, ResiduesKept s → step s = .next t → ResiduesKept t

/-! ### Routing -/

/-- R87, R88, R89, R91: a transfer that completes with the readback expected, or uncompared, latches the target image,
updates every coils list, makes the changed generators ROUTING and starts the settle; the all-open shift of HALT
leaves every coil open, compares nothing and settles nothing. That this shift sets the compare flag is deduced (log
31). -/
def Obligations.TransfersLatchTheChain : Prop :=
  ∀ (s : State) (readback : ChainWord), s.resetting = none → s.coils.length = 48 → s.gens.length = 8 →
    (s.route.stage = .halted → s.route.haltShift = .shifting →
      ∃ t, exec (.chainTransferComplete readback) s = .next t ∧
        (∀ c < 48, t.coil c = { s.coil c with latched := none }) ∧
        (∀ g < 8, t.gen g = { s.gen g with coils := [] }) ∧
        t = { s with
              coils := t.coils, gens := t.gens, out := s.out ++ [.latch]
              route := { s.route with compare := true, haltShift := .done } }) ∧
    (s.route.stage = .shifting → (s.route.compare = true → readback = chainWord s.latchedImage) →
    ∃ t, exec (.chainTransferComplete readback) s = .next t ∧
      (∀ c < 48, t.coil c = { s.coil c with latched := (s.route.target[c]?).getD none }) ∧
      (∀ g < 8, t.gen g = { s.gen g with
        coils := coilSet s.route.target g
        state :=
          if g ∈ s.route.changed ∧ (s.gen g).state ≠ .faulted ∧ (s.gen g).state ≠ .lost then .routing
          else (s.gen g).state }) ∧
      t = { s with
            coils := t.coils, gens := t.gens, out := s.out ++ [.latch]
            route := { s.route with
              stage := .settling, compare := true
              settleTimer := some (s.now + (s.store.settings.settleCode + 1) * ms) } })

/-- R88, R99, R144, R145: a readback that disagrees with the image latched before, and a report of drive on a settled
line, take the device to HALT from any other mode: the cause stands in the halt cause and the retained record, HALTED
is captured on both links and MODE_CHANGED where it is enabled, both lines are down and the desired image is open. A
survey is abandoned, with no SURVEY captured and no baseline changed; that it keeps its clear count and N is deduced (log
23). What a leaving of ACTIVE adds is stated in LeavingActiveHasEveryEffect. -/
def Obligations.HaltIsEntered : Prop :=
  ∀ (s : State) (c : Instr) (cause : HaltCause), s.resetting = none → s.ctl.mode ≠ .halt → s.route.stage ≠ .halted →
    ((∃ readback, c = .chainTransferComplete readback ∧ cause = .routeReadback ∧ s.route.stage = .shifting ∧
        s.route.compare = true ∧ readback ≠ chainWord s.latchedImage) ∨
      (∃ bd f rest r, c = .report bd ∧ cause = .driveAfterStop ∧ ReportReady s bd f rest r ∧
        DrivesAfterStop s bd r)) →
    ∃ t, exec c s = .next t ∧ t.ctl.mode = .halt ∧ t.ctl.haltCause = cause ∧ t.ctl.lastHalt = cause ∧
      t.ctl.startTimer = (if s.ctl.mode = .start then none else s.ctl.startTimer) ∧ t.route.stage = .halted ∧
      t.boardA.line = false ∧ t.boardB.line = false ∧ (∀ p, holds (t.partner p).captured .halted = true) ∧
      (∀ k ∈ t.coils, k.desired = none) ∧ (∀ x ∈ t.gens, x.inOperation = false) ∧
      (∀ p, holds (s.partner p).enabled .modeChanged = true → holds (t.partner p).captured .modeChanged = true) ∧
      (s.ctl.mode = .survey → s.survey.state ≠ .idle →
        t.survey = { s.survey with
          state := .idle, cause := none, count := 0, sums := List.replicate 48 0, samples := List.replicate 48 none,
          timer := none, last := .abandoned } ∧
        (∀ p, holds (t.partner p).captured .survey = holds (s.partner p).captured .survey) ∧
        ∀ c < 48, (t.coil c).baseline = (s.coil c).baseline)

/-- R89, R84, R85, R100: the settle's expiry clears the marks, makes ROUTING generators ARMED or IDLE and ends the
operation (`u`). Then the test of R84 is made: when the images agree nothing follows, and when they differ a new
operation starts with its target, its changed generators marked, its wait set and the stop orders for it, board A's
first by the model's choice (log 39). -/
def Obligations.SettleEndsTheOperation : Prop :=
  ∀ (s : State) (d : Nat), s.resetting = none → s.route.settleTimer = some d → s.gens.length = 8 →
    ∃ u t, exec .settleTimerExpiry s = .next t ∧
      (∀ g < 8, u.gen g =
        if g ∈ s.route.changed then
          { s.gen g with
            inOperation := false
            state := if (s.gen g).state = .routing then stoppedState (s.gen g) else (s.gen g).state }
        else s.gen g) ∧
      u = { s.elapseTo d with
            gens := u.gens
            route := { s.route with
              stage := .ready, target := [], changed := [], waitSet := [], settleTimer := none } } ∧
      OperationTested u t ∧ (s.desiredImage = s.latchedImage → t = u) ∧
      (s.desiredImage ≠ s.latchedImage → t.route.target = s.desiredImage ∧ t.route.stage ≠ .ready ∧
        ∀ g ∈ t.route.changed, (t.gen g).inOperation = true)

/-- R76, R86: every step keeps both route images within their constraints, and keeps what makes every latch safe: from
the start of an operation to its latch each generator whose coil set changes is waited on or is not RUNNING, and none is
waited on once the transfer has begun. -/
def Obligations.RouteImagesStaySound : Prop :=
  ∀ s t : State, ModesAgree s → RoutesSound s → step s = .next t →
    RoutesSound t ∧ (ChainQuiet s → ChainQuiet t)

/-! ### Boards and generators -/

/-- R101, R95, R86, R104, R105: a stop confirm, and an all-stopped hello of a board that was not returning, confirm the
generators they name that have a stop pending, and no others, and report them stopped; one that names all four clears
the board's stuck flag, and its line is judged afresh. A hello of a board that was returning has no further effect. -/
def Obligations.StopConfirmStopsGenerators : Prop :=
  ∀ (s : State) (bd : Board) (f : Frame) (rest : List Frame), BoardReady s bd f rest → s.gens.length = 8 →
    f.payload.length = 1 → ∀ u, u = s.modLink (boardLinkId bd) (fun r => { r with queue := rest }) →
    (f.kind = kindStopConfirm →
      ∃ t, exec (.stopConfirm bd) s = .next t ∧
        StopsConfirmed u t bd (fun g => (byteAt f.payload 0).testBit (positionOf g))) ∧
    (f.kind = kindHello →
      (byteAt f.payload 0 % 2 = 1 → f.returned = false →
        ∃ t, exec (.boardHello bd) s = .next t ∧ StopsConfirmed u t bd (fun _ => true)) ∧
      ((byteAt f.payload 0 % 2 = 0 ∨ f.returned = true) → exec (.boardHello bd) s = .next u))

/-- R180: a part 0 is held with its tag and its samples, and nothing else changes; a part 1 that no held part 0 of its
tag precedes drops what is held; a Report frame of another part number or length is disregarded. -/
def Obligations.ReportPartsAreJoined : Prop :=
  ∀ (s : State) (bd : Board) (f : Frame) (rest : List Frame), BoardReady s bd f rest → f.kind = kindReport →
    (byteAt f.payload 0 = 0 → f.payload.length = 49 →
      exec (.report bd) s = .next
        ((s.modLink (boardLinkId bd) (fun r => { r with queue := rest })).modBoard bd (fun r =>
          { r with held := some (f.tag, (List.range 24).map (fun i => numAt f.payload (1 + 2 * i))) }))) ∧
    (byteAt f.payload 0 = 1 → f.payload.length = 55 → (∀ samples, (s.board bd).held ≠ some (f.tag, samples)) →
      exec (.report bd) s = .next
        ((s.modLink (boardLinkId bd) (fun r => { r with queue := rest })).modBoard bd (fun r =>
          { r with held := none }))) ∧
    (¬(byteAt f.payload 0 = 0 ∧ f.payload.length = 49) → ¬(byteAt f.payload 0 = 1 ∧ f.payload.length = 55) →
      exec (.report bd) s = .next (s.modLink (boardLinkId bd) (fun r => { r with queue := rest })))

/-- R97, R98, R10, R16, R106, R107, R108, R180: a joined report says what Table 12-5 gives it with the limits of
Table 6-2, the samples as the held part 0 gave them, and it is taken: the phase's voltage, the samples and temperatures
of the half, the reported generator values with the residue limited by a changed P_full, and the last report. A reported
fault makes an ARMED, RUNNING, STOPPING or ROUTING generator FAULTED and captures GEN_FAULT, and is disregarded of any
other; a report without a fault retries a FAULTED generator whose conditions all hold, and leaves any other as it is.
That a retry raises the retries outside ACTIVE too is the model's choice (log 34). -/
def Obligations.ReportIsTaken : Prop :=
  ∀ (s : State) (bd : Board) (f : Frame) (rest : List Frame) (r : BoardReport), ReportReady s bd f rest r →
    ¬DrivesAfterStop s bd r → s.coils.length = 48 → s.gens.length = 8 →
    (∀ samples, (s.board bd).held = some (f.tag, samples) → ReportSays samples f.payload r) ∧
    ∃ t, exec (.report bd) s = .next t ∧ (t.link (boardLinkId bd)).queue = rest ∧
      (t.board bd).held = none ∧ (t.board bd).lastReport = some r ∧
      (r.voltage = 0 → (t.phase (boardPhase bd)).voltage = none ∧ (t.phase (boardPhase bd)).reportAge = 3) ∧
      (0 < r.voltage →
        (t.phase (boardPhase bd)).voltage = some r.voltage ∧ (t.phase (boardPhase bd)).reportAge = 0) ∧
      (∀ g < 8, boardOf g = bd → ∃ x taken, r.gens[positionOf g]? = some x ∧
        taken = { s.gen g with
          fMin := x.fMin, pFull := x.pFull, pFullFreq := x.pFullFreq
          residue :=
            if x.pFull = (s.gen g).pFull then (s.gen g).residue else min (s.gen g).residue (x.pFull.getD 0 - 1) } ∧
        (x.fault ≠ .none → (s.gen g).state ∈ [GenState.armed, .running, .stopping, .routing] →
          t.gen g = { taken with
            state := .faulted, fault := x.fault
            retryTimer := if (s.gen g).retries < 3 then .running (s.now + 2 * sec) else .stopped }) ∧
        (x.fault ≠ .none → (s.gen g).state ∈ [GenState.idle, .faulted, .lost] → t.gen g = taken) ∧
        (x.fault = .none → MayRetry (s.gen g) →
          t.gen g = { taken with
            state := stoppedState (s.gen g), fault := .none, retries := (s.gen g).retries + 1
            retryTimer := .stopped }) ∧
        (x.fault = .none → ¬MayRetry (s.gen g) → t.gen g = taken)) ∧
      (∀ p, holds (t.partner p).captured .genFault = true ↔ holds (s.partner p).captured .genFault = true ∨
        (holds (s.partner p).enabled .genFault = true ∧ ∃ g < 8, boardOf g = bd ∧
          (s.gen g).state ∈ [GenState.armed, .running, .stopping, .routing] ∧
          ∃ x, r.gens[positionOf g]? = some x ∧ x.fault ≠ .none)) ∧
      (∀ g < 8, boardOf g ≠ bd → t.gen g = s.gen g) ∧
      (∀ c < 48, (s.store.settings.showroom = true ∨ halfOf c ≠ bd ∨ (s.coil c).excluded = true) →
        t.coil c = s.coil c) ∧
      (∀ c < 48, s.store.settings.showroom = false → halfOf c = bd → (s.coil c).excluded = false →
        t.coil c = takeTemp s.store.settings ((r.temps[halfIndex c]?).getD none)
          (takeSample s.store.settings ((r.samples[halfIndex c]?).getD 0) (s.coil c)))

/-- R102, R104, R105, R107: a stop timer that expires marks the generator unconfirmed and its board stuck, and takes
the board's line down; a retry timer that expires leaves the generator waiting for a report. -/
def Obligations.StopAndRetryTimersExpire : Prop :=
  ∀ (s : State) (g : Fin 8) (d : Nat), s.resetting = none → s.gens.length = 8 →
    ((s.gen g.val).stopTimer = some d →
      ∃ t, exec (.stopTimerExpiry g) s = .next t ∧
        t.gen g.val = { s.gen g.val with stopTimer := none, unconfirmed := true } ∧
        (∀ h < 8, h ≠ g.val → t.gen h = s.gen h) ∧
        t.board (boardOf g.val) =
          (if (s.board (boardOf g.val)).stuck then s.board (boardOf g.val)
           else { lineDropped t.now (s.board (boardOf g.val)) with stuck := true }) ∧
        (∀ bd, bd ≠ boardOf g.val → t.board bd = s.board bd) ∧
        t = { s.elapseTo d with gens := t.gens, boardA := t.boardA, boardB := t.boardB }) ∧
    ((s.gen g.val).retryTimer = .running d →
      ∃ t, exec (.retryTimerExpiry g) s = .next t ∧ t.gen g.val = { s.gen g.val with retryTimer := .expired } ∧
        (∀ h < 8, h ≠ g.val → t.gen h = s.gen h) ∧ t = { s.elapseTo d with gens := t.gens })

/-- R103, R108, R111, R86, R91: a board's line settles 5 ms after it went down: the unconfirmed generators of the board
are FAULTED with STUCK, the STOPPING ones outside an operation rest, the RUNNING ones are ARMED, no stop stays pending,
and all four are reported stopped; after a leaving of ACTIVE the other FAULTED ones become IDLE with no fault. In HALT
the all-open shift begins once both lines have settled. -/
def Obligations.LineDownSettlesBoard : Prop :=
  ∀ (s : State) (bd : Board) (d : Nat), s.resetting = none → (s.board bd).lineDown = some d → s.gens.length = 8 →
    ∃ t, exec (.lineDownTimerExpiry bd) s = .next t ∧
      t.board bd = { s.board bd with settled := true, lineDown := none, freeFaults := false } ∧
      (∀ other, other ≠ bd → t.board other = s.board other) ∧
      (∀ g < 8, boardOf g ≠ bd → t.gen g = s.gen g) ∧
      (∀ g < 8, boardOf g = bd →
        ((s.gen g).unconfirmed = true → (s.gen g).state ≠ .lost →
          t.gen g = { s.gen g with
            state := .faulted, fault := .stuck, retries := 3, retryTimer := .stopped
            stopPending := false, stopTimer := none, unconfirmed := false }) ∧
        ((s.gen g).unconfirmed = false ∨ (s.gen g).state = .lost →
          ∀ freed, freed = ((s.board bd).freeFaults && decide ((s.gen g).state = .faulted)) →
          t.gen g = { s.gen g with
            stopPending := false, stopTimer := none, unconfirmed := false
            fault := if freed = true then .none else (s.gen g).fault
            state :=
              if freed = true then .idle
              else if (s.gen g).state = .stopping ∧ (s.gen g).inOperation = false then stoppedState (s.gen g)
              else if (s.gen g).state = .running then .armed else (s.gen g).state })) ∧
      t.links =
        (if ∃ g ∈ gensOf bd, (s.gen g).unconfirmed = true ∧ (s.gen g).state ≠ .lost ∧ (s.gen g).state ≠ .faulted then
          linksWith s [.genFault]
        else s.links) ∧
      (s.route.haltShift ≠ .waiting → StopsReported s t (fun g => g < 8 ∧ boardOf g = bd)) ∧
      (s.route.haltShift = .waiting → s.route.stage = .halted →
        ((∀ other, other ≠ bd → (s.board other).settled = true) →
          t.route = { s.route with haltShift := .shifting } ∧ t.out = s.out ++ [.shift 0]) ∧
        ((∃ other, other ≠ bd ∧ (s.board other).settled = false) → t.route = s.route ∧ t.out = s.out)) ∧
      t = { s.elapseTo d with
        gens := t.gens, boardA := t.boardA, boardB := t.boardB, links := t.links, route := t.route, out := t.out }

/-- R94, R110, R28, R10, R138: a board's presence timer takes it from PRESENT to LATE, and from LATE to LOST with every
effect of the loss on its line, its generators, its half of the surface and its phase; in START the leaving of START is
tested at each change. That a generator's P_full frequency becomes absent with its P_full is deduced (log 22). -/
def Obligations.BoardPresenceExpires : Prop :=
  ∀ (s : State) (bd : Board) (d : Nat), s.resetting = none → (s.link (boardLinkId bd)).presence = some d →
    (s.boardLink bd = .present →
      exec (.boardPresenceExpiry bd) s = .next (startTested
        (({ s.elapseTo d with links := linksWith s [.linkLate] } : State).modLink (boardLinkId bd) (fun r =>
          { r with state := .late, presence := some (max s.now d + 400 * ms) })))) ∧
    (s.boardLink bd = .late → s.coils.length = 48 → s.gens.length = 8 →
      ∃ u, exec (.boardPresenceExpiry bd) s = .next (startTested u) ∧ u.boardLink bd = .lost ∧
        (u.link (boardLinkId bd)).presence = none ∧ (u.link (boardLinkId bd)).queue = [] ∧
        u.board bd = { lineDropped (max s.now d) (s.board bd) with held := none } ∧
        (∀ other, other ≠ bd → u.board other = s.board other ∧ u.boardLink other = s.boardLink other) ∧
        (∀ g < 8, boardOf g = bd → u.gen g = { s.gen g with
          state := .lost, fault := .none, retryTimer := .stopped, fMin := none, pFull := none, pFullFreq := none,
          residue := 0 }) ∧
        (∀ g < 8, boardOf g ≠ bd → u.gen g = s.gen g) ∧
        (∀ c < 48, u.coil c = if halfOf c = bd then
          { s.coil c with window := [], average := none, cover := 0, cls := .none, temp := none } else s.coil c) ∧
        (u.phase (boardPhase bd)).voltage = none ∧ (u.phase (boardPhase bd)).reportAge = 3 ∧
        (u.phase (boardPhase bd)).sync = (s.phase (boardPhase bd)).sync ∧ u.mains.l1.sync = s.mains.l1.sync ∧
        (∀ p, holds (u.partner p).captured .linkLost = true) ∧
        (s.survey.state ≠ .idle → s.store.settings.showroom = false →
          u.survey.state = .idle ∧ u.survey.last = .abortedBoard ∧ u.ctl = { s.ctl with mode := .standby }) ∧
        (s.survey.state = .idle ∨ s.store.settings.showroom = true → u.survey = s.survey ∧ u.ctl = s.ctl) ∧
        u.pans = (s.elapseTo d).pans ∧ u.route = s.route ∧ u.levels = s.levels ∧ u.store = s.store)

/-- R138: the START timer's expiry makes every board still ABSENT LOST, and the mode STANDBY. -/
def Obligations.StartTimerExpires : Prop :=
  ∀ (s : State) (d : Nat), s.resetting = none → s.ctl.startTimer = some d →
    ∃ t, exec .startTimerExpiry s = .next t ∧ t.ctl = { s.ctl with mode := .standby, startTimer := none } ∧
      (∀ bd, t.boardLink bd = if s.boardLink bd = .absent then .lost else s.boardLink bd) ∧
      (∀ bd, s.boardLink bd = .absent → ∀ p, holds (t.partner p).captured .linkLost = true)

/-! ### Links -/

/-- R160, R164: a checked frame on PANEL or REMOTE: on a PRESENT or LATE link it restarts the presence and joins the
queue; on an ABSENT or LOST one only a Hello does, and makes the link PRESENT; with two frames queued, or more than 64
payload bytes, it is discarded. That a Hello of any payload length does so is the model's deduction (log 19). -/
def Obligations.PartnerFramesArrive : Prop :=
  ∀ (s : State) (p : Partner) (kind tag : Byte) (payload : List Byte), s.resetting = none →
    ((payload.length ≤ 64 ∧ (s.partner p).link.queue.length < 2 ∧
        ((s.partner p).link.state.up = true ∨ kind = kindHello)) →
      exec (.frameArrival (partnerLink p) kind tag payload) s = .next (s.modPartner p (fun r =>
        { r with link :=
          { state := .present, presence := some (s.now + presenceTime (partnerLink p)), rx := .hunting,
            gapTimer := none,
            queue := r.link.queue ++ [{ kind := kind, tag := tag, payload := payload, returned := false }] } }))) ∧
    ((64 < payload.length ∨ 2 ≤ (s.partner p).link.queue.length ∨
        ((s.partner p).link.state.up = false ∧ kind ≠ kindHello)) →
      exec (.frameArrival (partnerLink p) kind tag payload) s = .next (s.modPartner p (fun r =>
        { r with link := { r.link with rx := .hunting, gapTimer := none } })))

/-- R94, R96, R160, R138: a checked frame on a board link: on a PRESENT or LATE one it restarts the presence and, being
of a kind that a board sends, joins the queue; on an ABSENT or LOST one only an all-stopped hello counts, and the board
returns with its LOST generators at rest, its stuck flag clear and its line judged; in START the leaving of START is
tested. With two frames queued, or more than 64 payload bytes, it is discarded. That a frame of a kind boards do not send
is not queued while one of a known kind is, whatever its length (log 20), and that a Hello of another length does not make
a board return (log 36), are the model's deductions. -/
def Obligations.BoardFramesArrive : Prop :=
  ∀ (s : State) (bd : Board) (kind tag : Byte) (payload : List Byte), s.resetting = none → s.gens.length = 8 →
    ∀ ignored, ignored = s.modLink (boardLinkId bd) (fun r => { r with rx := .hunting, gapTimer := none }) →
    ((64 < payload.length ∨ 2 ≤ (s.link (boardLinkId bd)).queue.length) →
      exec (.frameArrival (boardLinkId bd) kind tag payload) s = .next ignored) ∧
    (payload.length ≤ 64 → (s.link (boardLinkId bd)).queue.length < 2 →
      ((s.boardLink bd).up = true →
        exec (.frameArrival (boardLinkId bd) kind tag payload) s = .next (startTested
          (s.modLink (boardLinkId bd) (fun r =>
            { state := .present, presence := some (s.now + 400 * ms), rx := .hunting, gapTimer := none
              queue :=
                if boardSends kind = true then
                  r.queue ++ [{ kind := kind, tag := tag, payload := payload, returned := false }]
                else r.queue })))) ∧
      ((s.boardLink bd).up = false → kind = kindHello → payload.length = 1 → byteAt payload 0 % 2 = 1 →
        ∃ u, exec (.frameArrival (boardLinkId bd) kind tag payload) s = .next (startTested u) ∧
          u.link (boardLinkId bd) =
            { state := .present, presence := some (s.now + 400 * ms), rx := .hunting, gapTimer := none
              queue := (s.link (boardLinkId bd)).queue ++
                [{ kind := kind, tag := tag, payload := payload, returned := true }] } ∧
          u.board bd =
            lineJudged s.now (decide (s.ctl.mode = .active) && !s.store.settings.showroom)
              { s.board bd with stuck := false } ∧
          (∀ g < 8, boardOf g = bd → u.gen g =
            if (s.gen g).state = .lost then { s.gen g with state := stoppedState (s.gen g), fault := .none }
            else s.gen g) ∧
          (∀ g < 8, boardOf g ≠ bd → u.gen g = s.gen g) ∧
          (∀ other, other ≠ bd → u.board other = s.board other ∧ u.boardLink other = s.boardLink other) ∧
          u.links.panel = s.links.panel ∧ u.links.remote = s.links.remote ∧
          u = { s with links := u.links, boardA := u.boardA, boardB := u.boardB, gens := u.gens }) ∧
      ((s.boardLink bd).up = false → ¬(kind = kindHello ∧ payload.length = 1 ∧ byteAt payload 0 % 2 = 1) →
        exec (.frameArrival (boardLinkId bd) kind tag payload) s = .next ignored))

/-- R160, Table 12-1: the bytes of a frame, received one after another in HUNTING without a gap, have the effect of
the frame's arrival, whatever its kind, tag and payload. That the two ways of arrival are one and the same is the
model's choice (log 6). -/
def Obligations.BytesAssembleTheFrame : Prop :=
  ∀ (s : State) (l : Link) (kind tag : Byte) (payload : List Byte), (s.link l).rx = .hunting → payload.length ≤ 64 →
    (frameBytes kind tag payload).foldl (fun o b =>
        match o with
        | .next t => exec (.byteReceived l b) t
        | .fault r => .fault r
        | .refused r => .refused r) (.next s) =
      exec (.frameArrival l kind tag payload) s

/-- R160: in HUNTING a byte other than the sync byte is discarded and a sync byte starts a frame, as it does when it
ends a gap above 2 ms, which any other byte ends in HUNTING; a length byte above 64 ends the assembly, and so does the
gap itself; a frame whose last byte is not its CRC-8 is discarded. -/
def Obligations.ReceiverHuntsForSync : Prop :=
  ∀ (s : State) (l : Link) (b : Byte), s.resetting = none →
    ((s.link l).rx = .hunting → (s.link l).gapTimer = none → b ≠ 0xC5 →
      exec (.byteReceived l b) s = .next s) ∧
    (((s.link l).rx = .hunting ∨ ∃ d, (s.link l).gapTimer = some d ∧ d < s.now) → b = 0xC5 →
      exec (.byteReceived l b) s = .next (s.modLink l (fun r =>
        { r with rx := .assembling [], gapTimer := some (s.now + 2 * ms) }))) ∧
    (∀ kind tag, (s.link l).rx = .assembling [kind, tag] → (∀ d, (s.link l).gapTimer = some d → s.now ≤ d) →
      64 < b.toNat →
      exec (.byteReceived l b) s = .next (s.modLink l (fun r => { r with rx := .hunting, gapTimer := none }))) ∧
    ((∃ d, (s.link l).gapTimer = some d ∧ d < s.now) → b ≠ 0xC5 →
      exec (.byteReceived l b) s = .next (s.modLink l (fun r => { r with rx := .hunting, gapTimer := none }))) ∧
    (∀ kind tag payload, (s.link l).rx = .assembling (kind :: tag :: byteOf payload.length :: payload) →
      payload.length ≤ 64 → (∀ d, (s.link l).gapTimer = some d → s.now ≤ d) →
      (frameBytes kind tag payload).getLast? ≠ some b →
      exec (.byteReceived l b) s = .next (s.modLink l (fun r => { r with rx := .hunting, gapTimer := none }))) ∧
    (∀ d, (s.link l).gapTimer = some d →
      exec (.byteGapTimeout l) s = .next ((s.elapseTo (d + 1)).modLink l (fun r =>
        { r with rx := .hunting, gapTimer := none })))

/-- R164, R142, R64, R163: the presence timer of PANEL or REMOTE takes it from PRESENT to LATE, and from LATE to LOST
with its queue and produced frames dropped; a loss of PANEL leaves ACTIVE, a loss of REMOTE makes the permit OFF. -/
def Obligations.PartnerPresenceExpires : Prop :=
  ∀ (s : State) (p : Partner) (d : Nat), s.resetting = none → (s.partner p).link.presence = some d →
    ((s.partner p).link.state = .present →
      exec (.linkPresenceExpiry p) s = .next
        (({ s.elapseTo d with
            links := (s.modPartner p (fun r => { r with link :=
              { r.link with state := .late,
                            presence := some (max s.now d + presenceTime (partnerLink p)) } })).links } : State).capture
          .linkLate)) ∧
    ((s.partner p).link.state = .late →
      ∃ t, exec (.linkPresenceExpiry p) s = .next t ∧ (t.partner p).link.state = .lost ∧
        (t.partner p).link.presence = none ∧ (t.partner p).link.queue = [] ∧ (t.partner p).produced = [] ∧
        (t.partner p).noticePending = false ∧ (t.partner p).sending = (s.partner p).sending ∧
        (∀ q, holds (t.partner q).captured .linkLost = true) ∧
        (p = .panel → s.ctl.mode = .active → t.ctl.mode = .standby) ∧
        (p = .panel → s.ctl.mode ≠ .active → t.ctl = s.ctl) ∧
        (p = .remote → t.levels = { s.levels with permit := .off } ∧ t.ctl = s.ctl))

/-- R163, R167: the sending of the oldest produced frame begins: a response goes out as produced, a notice with the
captured set as it stands, after which none is pending. That a SEND_FRAME with nothing produced marks the end of the
sending, and that a frame produced behind a Soft Reset response is begun by the SEND_FRAME that ends the response, before
the reset, are the model's choices (log 28, log 40). -/
def Obligations.SendingTakesOldestFrame : Prop :=
  ∀ (s : State) (p : Partner), s.resetting = none → (s.partner p).link.state.up = true →
    (∀ tag payload rest, (s.partner p).produced = .response tag payload :: rest →
      exec (.sendFrame p) s = .next ((s.modPartner p (fun r =>
        { r with produced := rest, sending := some (.response tag payload) })).emit
          (.frame (partnerLink p) (frameBytes 0x40 tag payload)))) ∧
    (∀ rest, (s.partner p).produced = .notice :: rest →
      exec (.sendFrame p) s = .next ((s.modPartner p (fun r =>
        { r with produced := rest, sending := some .notice, noticePending := false })).emit
          (.frame (partnerLink p) (frameBytes 0x41 0 (be2 (s.partner p).captured.toNat))))) ∧
    (∀ tag rest, (s.partner p).produced = .resetResponse tag :: rest →
      exec (.sendFrame p) s = .next ((s.modPartner p (fun r =>
        { r with produced := rest, sending := some (.resetResponse tag) })).emit
          (.frame (partnerLink p) (frameBytes 0x40 tag [0])))) ∧
    ((s.partner p).produced = [] →
      exec (.sendFrame p) s = .next (s.modPartner p (fun r => { r with sending := none })))

/-- R166, R167: a capture enters the event in both sets where it is enabled or always captured, leaves every other
event as it was, and an entry that changes a set on a link in use leaves a notice pending. -/
def Obligations.CapturesEnterBothSets : Prop :=
  ∀ (s : State) (e x : Event) (p : Partner),
    holds ((s.capture e).partner p).captured x =
        (holds (s.partner p).captured x ||
          (decide (x = e) && (holds (s.partner p).enabled e || alwaysCaptured e))) ∧
      (holds (s.partner p).captured e = false → holds ((s.capture e).partner p).captured e = true →
        (s.partner p).link.state.up = true → ((s.capture e).partner p).noticePending = true) ∧
      ((s.partner p).link.state.up = false → ((s.capture e).partner p).produced = (s.partner p).produced)

/-! ### Requests: the Link Controller's own -/

/-- R162: a frame of no request kind is answered UNKNOWN_KIND; a request the remote may not make NOT_PERMITTED; one
of the wrong length MALFORMED; nothing but the links changes, in every mode. A command whose frame is not at the front
takes nothing (R161, log 5). -/
def Obligations.LinkControllerRefusesFirst : Prop :=
  ∀ (s : State) (p : Partner) (f : Frame) (rest : List Frame), Ready s p f rest →
    (∀ req, f.kind ≠ requestCode req → exec (commandOf req p) s = .next s) ∧
    (isRequestKind f.kind = false →
      exec (.unknownKind p) s = .next (answered s p f rest .unknownKind [])) ∧
    (∀ req, f.kind = requestCode req → p = .remote → requestFromRemote req = false →
      exec (commandOf req p) s = .next (answered s p f rest .notPermitted [])) ∧
    (∀ req, f.kind = requestCode req → (p = .panel ∨ requestFromRemote req = true) →
      f.payload.length ≠ requestLength req →
      exec (commandOf req p) s = .next (answered s p f rest .malformed []))

/-- R146, R59, R63, R70, R71, R138, R140, R141, R151, R154, R155, R156, R157, R175 to R178: in HALT every request but the
reads, Hello, All Off and Soft Reset is refused WRONG_MODE; in any other mode a store in flight refuses Activate, Survey
Start and the settings' requests BUSY; in START, with no store in flight, those that change something are refused
NOT_READY, but Store Settings WRONG_MODE; in SURVEY Activate, Survey Start and the settings' requests are refused BUSY;
the survey's own requests are refused WRONG_MODE in STANDBY and ACTIVE, Pause and Resume in STANDBY and SURVEY, and
Store Settings in ACTIVE. -/
def Obligations.ModesRefuseRequests : Prop :=
  ∀ (s : State) (p : Partner) (f : Frame) (rest : List Frame) (req : Request), ReadyFor s p req f rest →
    (s.ctl.mode = .halt →
      req ∉ [Request.hello, .readStatus, .readPans, .readCoils, .readGenerators, .readEvents, .readTable,
        .readSettings, .allOff, .softReset] →
      exec (commandOf req p) s = .next (answered s p f rest .wrongMode [])) ∧
    (s.ctl.mode = .start → s.store.storing = none →
      req ∈ [Request.setLevel, .setRemotePermit, .pause, .resume, .activate, .deactivate, .surveyStart,
        .surveySuspend, .surveyResume, .surveyAbort, .writeShowroomRow, .writeSetting, .writeLevelTable,
        .setExclusion, .lockExclusion] →
      exec (commandOf req p) s = .next (answered s p f rest .notReady [])) ∧
    (s.ctl.mode = .start → s.store.storing = none → req = .storeSettings →
      exec (commandOf req p) s = .next (answered s p f rest .wrongMode [])) ∧
    (s.ctl.mode ≠ .halt → s.ctl.mode = .survey ∨ s.store.storing.isSome = true →
      req ∈ [Request.activate, .surveyStart, .writeSetting, .writeLevelTable, .storeSettings, .setExclusion,
        .lockExclusion] →
      exec (commandOf req p) s = .next (answered s p f rest .busy [])) ∧
    (s.ctl.mode = .standby ∨ s.ctl.mode = .active → req ∈ [Request.surveySuspend, .surveyResume, .surveyAbort] →
      exec (commandOf req p) s = .next (answered s p f rest .wrongMode [])) ∧
    (s.ctl.mode = .standby ∨ s.ctl.mode = .survey → req ∈ [Request.pause, .resume] →
      exec (commandOf req p) s = .next (answered s p f rest .wrongMode [])) ∧
    (s.ctl.mode = .active → s.store.storing = none → req = .storeSettings →
      exec (commandOf req p) s = .next (answered s p f rest .wrongMode []))

/-- R168, R169: Read Events is answered with the captured and the enabled set in every mode; outside HALT Clear Events
takes the mask's events out of the requesting link's captured set, and Set Event Enable replaces its enabled set, while
in HALT both are refused WRONG_MODE; nothing but the links changes. -/
def Obligations.EventRequestsAnswered : Prop :=
  ∀ (s : State) (p : Partner) (f : Frame) (rest : List Frame),
    (ReadyFor s p .readEvents f rest →
      exec (.readEvents p) s = .next (answered s p f rest .accepted
        (be2 (s.partner p).captured.toNat ++ be2 (s.partner p).enabled.toNat))) ∧
    (ReadyFor s p .clearEvents f rest → s.ctl.mode ≠ .halt →
      exec (.clearEvents p) s = .next ((answered s p f rest .accepted []).modPartner p (fun r =>
        { r with captured := r.captured &&& ~~~(setAt f.payload 0) }))) ∧
    (ReadyFor s p .clearEvents f rest → s.ctl.mode = .halt →
      exec (.clearEvents p) s = .next (answered s p f rest .wrongMode [])) ∧
    (ReadyFor s p .setEventEnable f rest → s.ctl.mode = .halt →
      exec (.setEventEnable p) s = .next (answered s p f rest .wrongMode [])) ∧
    (ReadyFor s p .setEventEnable f rest → s.ctl.mode ≠ .halt →
      exec (.setEventEnable p) s = .next ((answered s p f rest .accepted []).modPartner p (fun r =>
        { r with enabled := setAt f.payload 0 })))

/-- R165, R170, R171, R172, R176, R179, Tables 12-3, 12-6 to 12-9: Hello, with the captured set and the start record,
and the reads are answered in every mode from the state as it stands, and change nothing but the links; the sections of
the status record, the pan records, the coil summaries and the generator records carry the fields of the state at the
bytes and bits the tables give; a selector outside its set is refused OUT_OF_RANGE. That the seconds left of a timer are
rounded down is deduced (log 17), and that the bits of the start record, retained record and board status bytes that
chapter 12 does not give are 0 is the model's choice (log 41). -/
def Obligations.ReadsAnswered : Prop :=
  ∀ (s : State) (p : Partner) (f : Frame) (rest : List Frame),
    (ReadyFor s p .hello f rest →
      exec (.hello p) s = .next (answered s p f rest .accepted
        (be2 (s.partner p).captured.toNat ++ [byteOf (s.ctl.startCause.code + 4 * flag s.ctl.defaulted)]))) ∧
    (ReadyFor s p .readStatus f rest →
      (byteAt f.payload 0 ≤ 7 → ∃ data, SectionBytes s (byteAt f.payload 0) data ∧
        exec (.readStatus p) s = .next (answered s p f rest .accepted data)) ∧
      (7 < byteAt f.payload 0 → exec (.readStatus p) s = .next (answered s p f rest .outOfRange []))) ∧
    (ReadyFor s p .readPans f rest →
      (1 ≤ byteAt f.payload 0 → byteAt f.payload 0 ≤ 6 →
        ∃ records, List.Forall₂ PanBytes ((s.pans.filter (fun q => byteAt f.payload 0 ≤ q.number)).take 2) records ∧
          exec (.readPans p) s = .next (answered s p f rest .accepted
            (records.flatten ++
              [byteOf ((((s.pans.filter (fun q => byteAt f.payload 0 ≤ q.number)).drop 2).head?.map
                (fun q => q.number)).getD 0)]))) ∧
      ((byteAt f.payload 0 = 0 ∨ 6 < byteAt f.payload 0) →
        exec (.readPans p) s = .next (answered s p f rest .outOfRange []))) ∧
    (ReadyFor s p .readCoils f rest →
      (byteAt f.payload 0 ≤ 3 →
        ∃ records, List.Forall₂ (CoilBytes s) ((List.range 12).map (fun i => 12 * byteAt f.payload 0 + i)) records ∧
          exec (.readCoils p) s = .next (answered s p f rest .accepted records.flatten)) ∧
      (3 < byteAt f.payload 0 → exec (.readCoils p) s = .next (answered s p f rest .outOfRange []))) ∧
    (ReadyFor s p .readGenerators f rest →
      (∀ bd, byteAt f.payload 0 = (match bd with | Board.a => 0 | Board.b => 1) →
        ∃ records, List.Forall₂ (GenBytes s) (gensOf bd) records ∧
          exec (.readGenerators p) s = .next (answered s p f rest .accepted records.flatten)) ∧
      (1 < byteAt f.payload 0 → exec (.readGenerators p) s = .next (answered s p f rest .outOfRange []))) ∧
    (ReadyFor s p .readTable f rest → ∀ selector offset length,
      selector = byteAt f.payload 0 → offset = byteAt f.payload 1 → length = byteAt f.payload 2 →
      (selector = 0 → 1 ≤ length → offset + length ≤ 17 →
        exec (.readTable p) s = .next (answered s p f rest .accepted ((parameterTable.drop offset).take length))) ∧
      (selector = 0 → (length = 0 ∨ 17 < offset + length) →
        exec (.readTable p) s = .next (answered s p f rest .outOfRange [])) ∧
      (selector = 1 → offset ≤ 3 →
        exec (.readTable p) s = .next (answered s p f rest .accepted
          (((s.store.showroomTable.drop (12 * offset)).take 12).flatMap be2))) ∧
      (selector = 1 → 3 < offset → exec (.readTable p) s = .next (answered s p f rest .outOfRange [])) ∧
      (1 < selector → exec (.readTable p) s = .next (answered s p f rest .outOfRange []))) ∧
    (ReadyFor s p .readSettings f rest →
      (byteAt f.payload 0 = 0 →
        exec (.readSettings p) s = .next (answered s p f rest .accepted
          (s.store.settings.values.flatMap be2 ++
            [byteOf (flag s.store.storing.isSome), byteOf (flag s.store.lock)]))) ∧
      (byteAt f.payload 0 = 1 →
        exec (.readSettings p) s = .next (answered s p f rest .accepted (s.store.settings.levelTable.flatMap be2))) ∧
      (1 < byteAt f.payload 0 → exec (.readSettings p) s = .next (answered s p f rest .outOfRange [])))

/-! ### Requests: levels -/

/-- R60, R61, R62, R67, R72: a Set Level that is taken gives the pan its level, source and boost, moves its number to
the front of the demand order and moves a PLACED or HEATING pan's state; nothing else changes but the auto-off timer
and the links. -/
def Obligations.SetLevelIsTaken : Prop :=
  ∀ (s : State) (p : Partner) (f : Frame) (rest : List Frame) (n l : Nat) (q : Pan), ReadyFor s p .setLevel f rest →
    s.ctl.mode = .active → n = byteAt f.payload 0 → l = byteAt f.payload 1 → l ≤ 14 → findPan s.pans n = some q →
    q.state ≠ .forming →
    (p = .remote → l ≠ 14 ∧ s.levels.permit ≠ .off ∧ (s.levels.permit = .reduceOnly → l ≤ q.level) ∧
      (s.levels.permit = .adjust → q.level = 0 → l = 0)) →
    ∀ pans, pans = s.pans.map (fun x =>
      if x.number = n then
        { x with
          level := l, source := (match p with | .panel => .panel | .remote => .remote)
          boost := if l = 14 then some s.store.settings.boostDuration else none
          boostCounted := 0
          state :=
            if x.state = .placed ∧ 0 < l then .heating
            else if x.state = .heating ∧ l = 0 then .placed else x.state }
      else x) →
    exec (.setLevel p) s = .next { s with
      pans := pans
      levels := { s.levels with
        demand := n :: s.levels.demand.filter (· ≠ n), autoOff := autoOffWith s pans s.levels.pause }
      links := linksAfter s p rest [] (responseTo f .accepted []) }

/-- R59, R62: a Set Level that is refused, with the outcome of the first condition of Tables 4-3 and 4-4 that holds. -/
def Obligations.SetLevelIsRefused : Prop :=
  ∀ (s : State) (p : Partner) (f : Frame) (rest : List Frame) (n l : Nat), ReadyFor s p .setLevel f rest →
    n = byteAt f.payload 0 → l = byteAt f.payload 1 →
    (s.ctl.mode = .standby ∨ s.ctl.mode = .survey →
      exec (.setLevel p) s = .next (answered s p f rest .wrongMode [])) ∧
    (s.ctl.mode = .active → 14 < l → exec (.setLevel p) s = .next (answered s p f rest .outOfRange [])) ∧
    (s.ctl.mode = .active → l ≤ 14 → findPan s.pans n = none →
      exec (.setLevel p) s = .next (answered s p f rest .noSuchPan [])) ∧
    (∀ q, s.ctl.mode = .active → l ≤ 14 → findPan s.pans n = some q → q.state = .forming →
      exec (.setLevel p) s = .next (answered s p f rest .notReady [])) ∧
    (∀ q, s.ctl.mode = .active → l ≤ 14 → findPan s.pans n = some q → q.state ≠ .forming → p = .remote →
      (l = 14 ∨ s.levels.permit = .off ∨ (s.levels.permit = .reduceOnly ∧ q.level < l) ∨
        (s.levels.permit = .adjust ∧ q.level = 0 ∧ 0 < l)) →
      exec (.setLevel p) s = .next (answered s p f rest .notPermitted []))

/-- R62: no request from the remote link raises a pan from level 0 or sets level 14. -/
def Obligations.RemoteNeverStartsOrBoosts : Prop :=
  ∀ (s t : State) (req : Request), exec (commandOf req .remote) s = .next t → (panNumbers s).Pairwise (· < ·) →
    ∀ p' ∈ t.pans, ∃ p ∈ s.pans, p.number = p'.number ∧ (p.level = 0 → p'.level = 0) ∧
      (p'.level = 14 → p.level = 14)

/-- R66, R72, R63: All Off in ACTIVE sets every pan to level 0 and ends a pause, and in any other mode changes nothing;
Set Remote Permit in ACTIVE sets the permit, or is refused OUT_OF_RANGE for a value outside the three. -/
def Obligations.AllOffAndRemotePermit : Prop :=
  ∀ (s : State) (p : Partner) (f : Frame) (rest : List Frame),
    (ReadyFor s p .allOff f rest → s.ctl.mode ≠ .active → exec (.allOff p) s = .next (answered s p f rest .accepted [])) ∧
    (ReadyFor s p .allOff f rest → s.ctl.mode = .active → ∀ pans,
      pans = s.pans.map (fun x => { panOff x with source := (match p with | .panel => .panel | .remote => .remote) }) →
      exec (.allOff p) s = .next { s with
        pans := pans
        levels := { s.levels with
          pause := false, pauseTimer := if s.levels.pause then none else s.levels.pauseTimer,
          autoOff := autoOffWith s pans false }
        links := linksAfter s p rest (if s.levels.pause then [.modeChanged] else []) (responseTo f .accepted []) }) ∧
    (ReadyFor s p .setRemotePermit f rest → s.ctl.mode = .active → byteAt f.payload 0 ≤ 2 →
      ∃ v, v.code = byteAt f.payload 0 ∧
        exec (.setRemotePermit p) s = .next { answered s p f rest .accepted [] with
          levels := { s.levels with permit := v } }) ∧
    (ReadyFor s p .setRemotePermit f rest → s.ctl.mode = .active → 2 < byteAt f.payload 0 →
      exec (.setRemotePermit p) s = .next (answered s p f rest .outOfRange [])) ∧
    (ReadyFor s p .setRemotePermit f rest → s.ctl.mode = .standby ∨ s.ctl.mode = .survey →
      exec (.setRemotePermit p) s = .next (answered s p f rest .wrongMode []))

/-- R70, R71, R72: in ACTIVE a Pause sets the flag and its timer and stops the auto-off timer, a Resume clears them and
lets the auto-off timer start; each captures MODE_CHANGED once, and a repeat changes nothing; the pause timer's expiry
sets every pan to level 0 and ends the pause. -/
def Obligations.PausesBeginAndEnd : Prop :=
  ∀ (s : State) (p : Partner) (f : Frame) (rest : List Frame), s.ctl.mode = .active →
    (ReadyFor s p .pause f rest →
      (s.levels.pause = false →
        exec (.pause p) s = .next { s with
          levels := { s.levels with
            pause := true, pauseTimer := some (s.now + s.store.settings.pauseLimit * sec), autoOff := none }
          links := linksAfter s p rest [.modeChanged] (responseTo f .accepted []) }) ∧
      (s.levels.pause = true → exec (.pause p) s = .next (answered s p f rest .accepted []))) ∧
    (ReadyFor s p .resume f rest →
      (s.levels.pause = true →
        exec (.resume p) s = .next { s with
          levels := { s.levels with pause := false, pauseTimer := none, autoOff := autoOffWith s s.pans false }
          links := linksAfter s p rest [.modeChanged] (responseTo f .accepted []) }) ∧
      (s.levels.pause = false → exec (.resume p) s = .next (answered s p f rest .accepted []))) ∧
    (∀ d, s.resetting = none → s.levels.pauseTimer = some d →
      exec .pauseTimerExpiry s = .next { s.elapseTo d with
        pans := (s.elapseTo d).pans.map panOff
        levels := { s.levels with
          pause := false, pauseTimer := none,
          autoOff := autoOffWith (s.elapseTo d) ((s.elapseTo d).pans.map panOff) false }
        links := linksWith s [.modeChanged] })

/-- R52, R69: a recall entry leaves the list when the window has passed; a boost that has counted out leaves its pan
at level 13 and captures BOOST_ENDED. -/
def Obligations.RecallAndBoostExpire : Prop :=
  ∀ s : State, s.resetting = none →
    (∀ i e, s.recalls[i]? = some e →
      exec (.recallExpiry i) s = .next { s.elapseTo (e.liftTime + s.store.settings.recallWindow * sec) with
        recalls := s.recalls.eraseIdx i }) ∧
    (∀ n q, findPan s.pans n = some q → q.state = .heating → q.boost.isSome = true → s.levels.pause = false →
      exec (.boostExpiry n) s = .next { s.elapse q.boostLeft with
        pans := (s.elapse q.boostLeft).pans.map (fun x =>
          if x.number = n then { x with level := 13, boost := none, boostCounted := 0 } else x)
        links := linksWith s [.boostEnded] })

/-! ### Requests: modes and survey -/

/-- R140, R105, R72: an Activate taken in STANDBY makes the mode ACTIVE, asserts the line of each board that is in use
and not stuck, and lets the auto-off timer start; one that is not taken is answered by the first condition of Table
8-3 that holds. -/
def Obligations.ActivateIsJudged : Prop :=
  ∀ (s : State) (p : Partner) (f : Frame) (rest : List Frame), ReadyFor s p .activate f rest →
    (s.ctl.mode = .survey → exec (.activate p) s = .next (answered s p f rest .busy [])) ∧
    (s.ctl.mode ≠ .halt → s.store.storing.isSome = true →
      exec (.activate p) s = .next (answered s p f rest .busy [])) ∧
    (s.ctl.mode = .active → s.store.storing = none →
      exec (.activate p) s = .next (answered s p f rest .accepted [])) ∧
    (s.ctl.mode = .standby → s.store.storing = none →
      (s.links.panel.link.state ≠ .present ∨ s.mains.l1.sync ≠ .valid ∨
        (s.store.settings.showroom = false ∧ s.boardLink .a ≠ .present ∧ s.boardLink .b ≠ .present)) →
      exec (.activate p) s = .next (answered s p f rest .notReady [])) ∧
    (s.ctl.mode = .standby →
    s.store.storing = none → s.links.panel.link.state = .present → s.mains.l1.sync = .valid →
    (s.store.settings.showroom = true ∨ s.boardLink .a = .present ∨ s.boardLink .b = .present) → LinesFollow s →
    ∃ t, exec (.activate p) s = .next t ∧
      (∀ bd, t.board bd =
        if (s.boardLink bd).up = true ∧ s.store.settings.showroom = false ∧ (s.board bd).stuck = false then
          { s.board bd with line := true, settled := false, lineDown := none, freeFaults := false }
        else s.board bd) ∧
      t = { s with
            ctl := { s.ctl with mode := .active }, boardA := t.boardA, boardB := t.boardB
            levels := { s.levels with
              autoOff := autoOffWith { s with ctl := { s.ctl with mode := .active } } s.pans s.levels.pause }
            links := linksAfter s p rest [.modeChanged] (responseTo f .accepted []) })

/-- R141, R72, R142: a Deactivate taken in ACTIVE and the auto-off timer's expiry take the device to STANDBY; in STANDBY
a Deactivate changes nothing. -/
def Obligations.DeactivateAndAutoOffLeaveActive : Prop :=
  ∀ s : State,
    (∀ p f rest, ReadyFor s p .deactivate f rest →
      (s.ctl.mode = .active → ∃ t, exec (.deactivate p) s = .next t ∧ t.ctl = { s.ctl with mode := .standby } ∧
        ActiveLeft t ∧ t.links = linksAfter s p rest [.modeChanged] (responseTo f .accepted [])) ∧
      (s.ctl.mode = .standby → exec (.deactivate p) s = .next (answered s p f rest .accepted [])) ∧
      (s.ctl.mode = .survey → exec (.deactivate p) s = .next (answered s p f rest .wrongMode []))) ∧
    (∀ d, s.resetting = none → s.levels.autoOff = some d → s.ctl.mode = .active →
      ∃ t, exec .autoOffExpiry s = .next t ∧ t.ctl = { s.ctl with mode := .standby } ∧ ActiveLeft t ∧
        t.links = linksWith s [.modeChanged] ∧ t.now = max s.now d)

/-- R137, R142, R143, R145, R53, R73, R83, R105, R111: whatever takes the device from ACTIVE to STANDBY or to HALT, the
next state shows every effect of the leaving: pans, levels and recall list at rest, the image open, generators without
pans and retries, both lines down with their line-down timers started, FAULTED generators freed at once on a settled
board and else marked to be freed when its line settles, which the mark of log 21 remembers, and MODE_CHANGED captured.
The leaving is taken at the end of the step, but where an L1 edge comes after its 25 ms: there it is taken as they run
out (log 3). -/
def Obligations.LeavingActiveHasEveryEffect : Prop :=
  ∀ (s t : State) (c : Instr), ModesAgree s → s.ctl.mode = .active → exec c s = .next t →
    t.ctl.mode = .standby ∨ t.ctl.mode = .halt →
    (t.ctl.mode = .standby → ActiveLeft t) ∧
      LeavingShows s t (leavingMoment s t c)

/-- R147, R177: a Soft Reset is taken in every mode: its response is produced, the requests behind it in both partners'
queues are dropped, and a store in flight is cut off, with an image that does not pass. That the cut shows at the taking
and not at the beginning of the reset is deduced (log 35). -/
def Obligations.SoftResetIsTaken : Prop :=
  ∀ (s : State) (f : Frame) (rest : List Frame), ReadyFor s .panel .softReset f rest →
    s.links.panel.link.state.up = true →
    ∃ image, (s.store.storing = none → image = s.store.image) ∧
      (s.store.storing.isSome = true → image.passes = false) ∧
      exec (.softReset .panel) s = .next { s with
        softReset := true
        store := { s.store with storing := none, image := image }
        links := { s.links with
          panel := { s.links.panel with
            link := { s.links.panel.link with queue := [] }
            produced := s.links.panel.produced ++ [.resetResponse f.tag] }
          remote := { s.links.remote with link := { s.links.remote.link with queue := [] } } } }

/-- R151, Table 9-2: a Survey Start taken starts the survey with everything at 0 and makes the mode SURVEY; in ACTIVE it
is refused WRONG_MODE, and in STANDBY NOT_READY with a board not PRESENT, an exclusion not yet taken up, a covered coil
or a pan in the table. The counter of the free choices goes on (log 11). -/
def Obligations.SurveyStartIsTaken : Prop :=
  ∀ (s : State) (p : Partner) (f : Frame) (rest : List Frame), ReadyFor s p .surveyStart f rest →
    s.store.storing = none →
    (s.ctl.mode = .active → exec (.surveyStart p) s = .next (answered s p f rest .wrongMode [])) ∧
    (s.ctl.mode = .standby →
      ((s.store.settings.showroom = false ∧ ∃ bd, s.boardLink bd ≠ .present) ∨
        (∃ c < 48, (s.store.exclusion[c]?).getD false = true ∧ (s.coil c).excluded = false) ∨
        (∃ c < 48, (s.coil c).excluded = false ∧ (s.coil c).cls ≠ .none) ∨ s.pans ≠ []) →
      exec (.surveyStart p) s = .next (answered s p f rest .notReady [])) ∧
    (s.ctl.mode = .standby →
      (s.store.settings.showroom = true ∨ (s.boardLink .a = .present ∧ s.boardLink .b = .present)) →
      (∀ c < 48, (s.store.exclusion[c]?).getD false = true → (s.coil c).excluded = true) →
      (∀ c < 48, (s.coil c).excluded = false → (s.coil c).cls = .none) → s.pans = [] →
      exec (.surveyStart p) s = .next { s with
        ctl := { s.ctl with mode := .survey }
        survey :=
          { state := .running, cause := none, length := s.store.settings.surveyLength, count := 0,
            sums := List.replicate 48 0, samples := List.replicate 48 none, opened := false, exceeded := false,
            clear := 0, timer := none, last := s.survey.last }
        choices := s.choices + 1
        links := linksAfter s p rest [.modeChanged] (responseTo f .accepted []) })

/-- R154, R155, R152, R153, R30: Survey Suspend and Survey Resume in SURVEY, by the survey's state and clear count; a
Survey Abort and the suspend timer's expiry end the survey with their own outcome, SURVEY and MODE_CHANGED captured, the
mode STANDBY and no baseline changed. A frame start closes the survey's frame: a whole one is counted into the sums, the
last one completes the survey with its new baselines, and the second clear one ends a PLACEMENT suspension; in showroom
mode the intake of the showroom table comes before or after it (log 11), in one order for the whole survey, so that of
two frame starts the second counts its frame. That a resume keeps the clear count, and an abort the clear count and N,
both as read in the status record, is deduced (log 23). A board report taken outside showroom mode is
an intake, whose samples suspend a running survey where one is above its threshold. -/
def Obligations.SurveysAreSuspendedAndEnded : Prop :=
  (∀ (s : State) (p : Partner) (f : Frame) (rest : List Frame), s.ctl.mode = .survey →
    (ReadyFor s p .surveySuspend f rest →
      (s.survey.state = .running →
        exec (.surveySuspend p) s = .next { answered s p f rest .accepted [] with
          survey := { s.survey with
            state := .suspended, cause := some .request, timer := some (s.now + 300 * sec), opened := false,
            samples := List.replicate 48 none, exceeded := false, clear := 0 } }) ∧
      (s.survey.state = .suspended →
        exec (.surveySuspend p) s = .next { answered s p f rest .accepted [] with
          survey := { s.survey with cause := some .request } })) ∧
    (ReadyFor s p .surveyResume f rest →
      (s.survey.state = .running → exec (.surveyResume p) s = .next (answered s p f rest .accepted [])) ∧
      (s.survey.state = .suspended → s.survey.clear < 2 →
        exec (.surveyResume p) s = .next (answered s p f rest .notReady [])) ∧
      (s.survey.state = .suspended → 2 ≤ s.survey.clear →
        exec (.surveyResume p) s = .next { answered s p f rest .accepted [] with
          survey := { s.survey with state := .running, cause := none, timer := none, opened := false } })) ∧
    (s.survey.state ≠ .idle → ∀ survey outcome,
      survey = { s.survey with
        state := .idle, cause := none, count := 0, sums := List.replicate 48 0, samples := List.replicate 48 none,
        timer := none, last := outcome } →
      (ReadyFor s p .surveyAbort f rest → outcome = .abortedRequest →
        exec (.surveyAbort p) s = .next { s with
          survey := survey, ctl := { s.ctl with mode := .standby }
          links := linksAfter s p rest [.survey, .modeChanged] (responseTo f .accepted []) }) ∧
      (∀ d, s.resetting = none → s.survey.timer = some d → outcome = .abortedTimeout →
        exec .suspendTimerExpiry s = .next { s.elapseTo d with
          survey := survey, ctl := { s.ctl with mode := .standby }
          links := linksWith s [.survey, .modeChanged] }))) ∧
  (∀ s : State, s.coils.length = 48 →
    (s.store.settings.showroom = false → FrameClosed s s.frameStart) ∧
    (s.store.settings.showroom = true →
      ∃ u : State,
        u = { s with mains := u.mains, coils := u.coils, survey := u.survey, ctl := u.ctl, links := u.links } ∧
        ((FrameClosed s u ∧ IntakeTaken (tableReading s) u s.frameStart) ∨
          (IntakeTaken (tableReading s) s u ∧ FrameClosed u s.frameStart))) ∧
    (s.store.settings.showroom = true → s.survey.state = .running → s.survey.count + 2 < s.survey.length →
      (∀ c < 48, (s.coil c).excluded = false →
        min ((s.store.showroomTable[c]?).getD 0) 1023 ≤ (s.coil c).baseline + s.store.settings.tp) →
      s.frameStart.frameStart.survey.count = s.frameStart.survey.count + 1) ∧
    (∀ bd f rest r, ReportReady s bd f rest r → ¬DrivesAfterStop s bd r → s.store.settings.showroom = false →
      ∃ t, exec (.report bd) s = .next t ∧
        IntakeTaken (fun c =>
          if halfOf c = bd then
            some { sample := (r.samples[halfIndex c]?).getD 0, temp := (r.temps[halfIndex c]?).getD none }
          else none) s t))

/-! ### Requests: settings -/

/-- R157: a Write Showroom Row stores the row's twelve values, each limited to 1023, and is ADJUSTED when one was. -/
def Obligations.ShowroomRowIsWritten : Prop :=
  ∀ (s : State) (p : Partner) (f : Frame) (rest : List Frame), ReadyFor s p .writeShowroomRow f rest →
    s.ctl.mode ≠ .start → s.ctl.mode ≠ .halt →
    (3 < byteAt f.payload 0 → exec (.writeShowroomRow p) s = .next (answered s p f rest .outOfRange [])) ∧
    (byteAt f.payload 0 ≤ 3 → s.store.showroomTable.length = 48 →
      ∃ t reply data, exec (.writeShowroomRow p) s = .next t ∧
        t = { answered s p f rest reply data with
              store := { s.store with showroomTable := t.store.showroomTable } } ∧
        (∀ c < 48, t.store.showroomTable[c]? =
          if rowOf c = byteAt f.payload 0 then some (min (numAt f.payload (1 + 2 * colOf c)) 1023)
          else s.store.showroomTable[c]?) ∧
        ((∀ i < 12, numAt f.payload (1 + 2 * i) ≤ 1023) → reply = .accepted ∧ data = []) ∧
        ((∃ i < 12, 1023 < numAt f.payload (1 + 2 * i)) →
          reply = .adjusted ∧
            data = (List.range 12).flatMap (fun i => be2 (min (numAt f.payload (1 + 2 * i)) 1023))))

/-- R175, R22, R29, R52, R105, Table 12-3: a Write Setting of an id that names no setting, or of a value outside an
enumeration, is refused OUT_OF_RANGE. One taken limits the value to its range, raises T_f or T_cut as
the dependencies ask, and leaves every other setting; ACCEPTED when the value is stored as given and nothing was raised,
else ADJUSTED with the stored value and the dependent raised. A changed averaging exponent or showroom setting empties
every window, a changed recall window expires the entries it leaves behind, a changed showroom setting judges the lines
and, turned off, clears the half of a board not in use; a write of the value in force does none of this, and nothing else
changes. -/
def Obligations.SettingIsWritten : Prop :=
  ∀ (s : State) (p : Partner) (f : Frame) (rest : List Frame) (id v : Nat),
    ReadyFor s p .writeSetting f rest → s.ctl.mode = .standby ∨ s.ctl.mode = .active → s.store.storing = none →
    id = byteAt f.payload 0 → v = numAt f.payload 1 →
    ((id = 0 ∨ 17 < id) → exec (.writeSetting p) s = .next (answered s p f rest .outOfRange [])) ∧
    (1 ≤ id → id ≤ 17 → (settingRange id).isSome = true) ∧
    ∀ range, settingRange id = some range → SettingsFit s →
    (settingIsEnum id = true → range.2 < v → exec (.writeSetting p) s = .next (answered s p f rest .outOfRange [])) ∧
    ((settingIsEnum id = false ∨ v ≤ range.2) →
      ∃ t u reply data st, exec (.writeSetting p) s = .next t ∧ st = t.store.settings ∧ SettingsFit t ∧
        (id ≠ 5 → id ≠ 8 → st.value id = max range.1 (min v range.2)) ∧
        (id = 5 → st.tf = max (max range.1 (min v range.2)) (st.tp + 2 * st.hyst)) ∧
        (id = 8 → st.tCut = max (max range.1 (min v range.2)) (st.tWarn + 10)) ∧
        ((id = 4 ∨ id = 6) → st.tf = max s.store.settings.tf (st.tp + 2 * st.hyst)) ∧
        (id = 7 → st.tCut = max s.store.settings.tCut (st.tWarn + 10)) ∧
        (∀ j, 1 ≤ j → j ≤ 17 → j ≠ id → (j = 5 → id ≠ 4 ∧ id ≠ 6) → (j = 8 → id ≠ 7) →
          st.value j = s.store.settings.value j) ∧
        st.levelTable = s.store.settings.levelTable ∧
        ((st.value id = v ∧ ∀ j, 1 ≤ j → j ≤ 17 → j ≠ id → st.value j = s.store.settings.value j) →
          reply = .accepted ∧ data = []) ∧
        (st.value id ≠ v → (∀ j, 1 ≤ j → j ≤ 17 → j ≠ id → st.value j = s.store.settings.value j) →
          reply = .adjusted ∧ data = be2 (st.value id) ++ [0, 0, 0]) ∧
        (∀ j, 1 ≤ j → j ≤ 17 → j ≠ id → st.value j ≠ s.store.settings.value j →
          reply = .adjusted ∧ data = be2 (st.value id) ++ byteOf j :: be2 (st.value j)) ∧
        u = { answered s p f rest reply data with store := { s.store with settings := st } } ∧
        (st.avgExp = s.store.settings.avgExp → st.recallWindow = s.store.settings.recallWindow →
          st.showroom = s.store.settings.showroom → t = u) ∧
        (st.avgExp ≠ s.store.settings.avgExp →
          t = { u with coils := s.coils.map (fun k => { k with window := [], average := none }) }) ∧
        (st.recallWindow ≠ s.store.settings.recallWindow →
          t = { u with recalls := s.recalls.filter (fun e => s.now < e.liftTime + st.recallWindow * sec) }) ∧
        (st.showroom ≠ s.store.settings.showroom →
          (s.coils.length = 48 → ∀ c < 48, t.coil c =
            if st.showroom = false ∧ (s.boardLink (halfOf c)).up = false then
              { s.coil c with window := [], average := none, cover := 0, cls := .none, temp := none }
            else { s.coil c with window := [], average := none }) ∧
          (∀ bd, t.board bd =
            lineJudged s.now
              (decide (s.ctl.mode = .active) && !st.showroom && (s.boardLink bd).up && !(s.board bd).stuck)
              (s.board bd)) ∧
          t = { u with coils := t.coils, boardA := t.boardA, boardB := t.boardB }))

/-- R176, R177, R178: the level table, the store, the exclusion flags and the lock-down are written as their requests
ask, each with nothing else changed but the links; the completion of a store, no Soft Reset having been taken, puts the
image and its CRC in place. That
a store completes at the latest after 120 ms, and the bytes its CRC-16 runs over, are the model's choice (log 4, log
10). -/
def Obligations.StoreAndExclusionWrites : Prop :=
  ∀ s : State,
    (∀ p f rest, (s.ctl.mode = .standby ∨ s.ctl.mode = .active) → s.store.storing = none →
      (ReadyFor s p .writeLevelTable f rest → ∀ entries,
        entries = (List.range 14).map (fun i => numAt f.payload (2 * i)) →
        ((∀ x ∈ entries, 50 ≤ x ∧ x ≤ 3700) ∧ entries.Pairwise (· ≤ ·) →
          exec (.writeLevelTable p) s = .next { answered s p f rest .accepted [] with
            store := { s.store with settings := { s.store.settings with levelTable := entries } } }) ∧
        (¬((∀ x ∈ entries, 50 ≤ x ∧ x ≤ 3700) ∧ entries.Pairwise (· ≤ ·)) →
          exec (.writeLevelTable p) s = .next (answered s p f rest .outOfRange []))) ∧
      (ReadyFor s p .setExclusion f rest →
        (byteAt f.payload 0 ≤ 47 → s.store.lock = false →
          exec (.setExclusion p) s = .next { answered s p f rest .accepted [] with
            store := { s.store with exclusion := s.store.exclusion.set (byteAt f.payload 0) true } }) ∧
        (byteAt f.payload 0 ≤ 47 → s.store.lock = true →
          exec (.setExclusion p) s = .next (answered s p f rest .notPermitted [])) ∧
        (47 < byteAt f.payload 0 → exec (.setExclusion p) s = .next (answered s p f rest .outOfRange []))) ∧
      (ReadyFor s p .lockExclusion f rest →
        exec (.lockExclusion p) s = .next { answered s p f rest .accepted [] with
          store := { s.store with lock := true } })) ∧
    (∀ p f rest, ReadyFor s p .storeSettings f rest → s.ctl.mode = .standby → s.store.storing = none →
      exec (.storeSettings p) s = .next { answered s p f rest .accepted [] with
        store := { s.store with
          storing := some
            { contents := { settings := s.store.settings, baselines := s.coils.map (fun k => k.baseline) },
              latest := s.now + 120 * ms } } }) ∧
    (∀ c, s.resetting = none → s.softReset = false → s.store.storing = some c →
      exec .storeComplete s = .next { s with
        links := linksWith s [.storeDone]
        store := { s.store with
          storing := none, image := { contents := c.contents, crc := crc16 c.contents.bytes } } })

/-! ### Laws that every step keeps -/

/-- Table 9-1, R138, R139, R105: every step keeps the survey and the START timer in agreement with the mode, and each
enable line asserted exactly while the device is ACTIVE, showroom mode is off, the board is PRESENT or LATE and it is
not stuck. That a reset in progress is one in START is the model's deduction (log 32). -/
def Obligations.ModesAndLinesStayInAgreement : Prop :=
  ∀ s t : State, ModesAgree s → step s = .next t → ModesAgree t ∧ (LinesFollow s → LinesFollow t)

/-- R73, R53, R64, R72: every step keeps every level at 0, and the Level Unit at rest, outside ACTIVE. -/
def Obligations.LevelsRestOutsideActive : Prop :=
  ∀ s t : State, ModesAgree s → RestsOutsideActive s → step s = .next t → RestsOutsideActive t

/-- R34, R67: every step keeps at most six pan records with distinct numbers, the demand order listing each of them
once and no other, and at most four recall entries. -/
def Obligations.PanTableStaysSound : Prop := ∀ s t : State, TableSound s → step s = .next t → TableSound t

/-- R175, R176, R174: every step keeps the working settings in their ranges and their dependencies. -/
def Obligations.SettingsStayInRange : Prop := ∀ s t : State, SettingsFit s → step s = .next t → SettingsFit t

/-- R160: every step keeps at most two frames in each input queue. -/
def Obligations.QueuesStayBounded : Prop := ∀ s t : State, QueuesBounded s → step s = .next t → QueuesBounded t

/-- R144, R146: no step but one that begins a reset takes the device out of HALT or changes its cause. -/
def Obligations.HaltLeftOnlyByReset : Prop :=
  ∀ s t : State, ModesAgree s → s.resetting = none → step s = .next t → HaltStands s t

/-- R178: no step clears an exclusion flag or the lock-down. -/
def Obligations.ExclusionsAreNeverCleared : Prop := ∀ s t : State, step s = .next t → ExclusionsKept s t
end

