-- ==== Sys2Proof/Laws/State.lean ====
section
/-! SUPPORT. What each update of the state leaves alone, field by field, so that no proof unfolds a record update:
`State.<update>_<field>`. What an update does to its own field stands in Laws/Records.lean. -/

namespace Sys2Proof.Machine

variable (s : State)

/-! ### mapCoils -/

@[simp] theorem State.mapCoils_now (f : Nat → Coil → Coil) : (s.mapCoils f).now = s.now := rfl
@[simp] theorem State.mapCoils_mains (f : Nat → Coil → Coil) : (s.mapCoils f).mains = s.mains := rfl
@[simp] theorem State.mapCoils_pans (f : Nat → Coil → Coil) : (s.mapCoils f).pans = s.pans := rfl
@[simp] theorem State.mapCoils_recalls (f : Nat → Coil → Coil) : (s.mapCoils f).recalls = s.recalls := rfl
@[simp] theorem State.mapCoils_levels (f : Nat → Coil → Coil) : (s.mapCoils f).levels = s.levels := rfl
@[simp] theorem State.mapCoils_route (f : Nat → Coil → Coil) : (s.mapCoils f).route = s.route := rfl
@[simp] theorem State.mapCoils_boardA (f : Nat → Coil → Coil) : (s.mapCoils f).boardA = s.boardA := rfl
@[simp] theorem State.mapCoils_boardB (f : Nat → Coil → Coil) : (s.mapCoils f).boardB = s.boardB := rfl
@[simp] theorem State.mapCoils_gens (f : Nat → Coil → Coil) : (s.mapCoils f).gens = s.gens := rfl
@[simp] theorem State.mapCoils_alloc (f : Nat → Coil → Coil) : (s.mapCoils f).alloc = s.alloc := rfl
@[simp] theorem State.mapCoils_ctl (f : Nat → Coil → Coil) : (s.mapCoils f).ctl = s.ctl := rfl
@[simp] theorem State.mapCoils_resetting (f : Nat → Coil → Coil) : (s.mapCoils f).resetting = s.resetting := rfl
@[simp] theorem State.mapCoils_softReset (f : Nat → Coil → Coil) : (s.mapCoils f).softReset = s.softReset := rfl
@[simp] theorem State.mapCoils_survey (f : Nat → Coil → Coil) : (s.mapCoils f).survey = s.survey := rfl
@[simp] theorem State.mapCoils_links (f : Nat → Coil → Coil) : (s.mapCoils f).links = s.links := rfl
@[simp] theorem State.mapCoils_store (f : Nat → Coil → Coil) : (s.mapCoils f).store = s.store := rfl
@[simp] theorem State.mapCoils_out (f : Nat → Coil → Coil) : (s.mapCoils f).out = s.out := rfl
@[simp] theorem State.mapCoils_choices (f : Nat → Coil → Coil) : (s.mapCoils f).choices = s.choices := rfl
@[simp] theorem State.mapCoils_pending (f : Nat → Coil → Coil) : (s.mapCoils f).pending = s.pending := rfl

/-! ### mapGens -/

@[simp] theorem State.mapGens_now (f : Nat → Gen → Gen) : (s.mapGens f).now = s.now := rfl
@[simp] theorem State.mapGens_mains (f : Nat → Gen → Gen) : (s.mapGens f).mains = s.mains := rfl
@[simp] theorem State.mapGens_coils (f : Nat → Gen → Gen) : (s.mapGens f).coils = s.coils := rfl
@[simp] theorem State.mapGens_pans (f : Nat → Gen → Gen) : (s.mapGens f).pans = s.pans := rfl
@[simp] theorem State.mapGens_recalls (f : Nat → Gen → Gen) : (s.mapGens f).recalls = s.recalls := rfl
@[simp] theorem State.mapGens_levels (f : Nat → Gen → Gen) : (s.mapGens f).levels = s.levels := rfl
@[simp] theorem State.mapGens_route (f : Nat → Gen → Gen) : (s.mapGens f).route = s.route := rfl
@[simp] theorem State.mapGens_boardA (f : Nat → Gen → Gen) : (s.mapGens f).boardA = s.boardA := rfl
@[simp] theorem State.mapGens_boardB (f : Nat → Gen → Gen) : (s.mapGens f).boardB = s.boardB := rfl
@[simp] theorem State.mapGens_alloc (f : Nat → Gen → Gen) : (s.mapGens f).alloc = s.alloc := rfl
@[simp] theorem State.mapGens_ctl (f : Nat → Gen → Gen) : (s.mapGens f).ctl = s.ctl := rfl
@[simp] theorem State.mapGens_resetting (f : Nat → Gen → Gen) : (s.mapGens f).resetting = s.resetting := rfl
@[simp] theorem State.mapGens_softReset (f : Nat → Gen → Gen) : (s.mapGens f).softReset = s.softReset := rfl
@[simp] theorem State.mapGens_survey (f : Nat → Gen → Gen) : (s.mapGens f).survey = s.survey := rfl
@[simp] theorem State.mapGens_links (f : Nat → Gen → Gen) : (s.mapGens f).links = s.links := rfl
@[simp] theorem State.mapGens_store (f : Nat → Gen → Gen) : (s.mapGens f).store = s.store := rfl
@[simp] theorem State.mapGens_out (f : Nat → Gen → Gen) : (s.mapGens f).out = s.out := rfl
@[simp] theorem State.mapGens_choices (f : Nat → Gen → Gen) : (s.mapGens f).choices = s.choices := rfl
@[simp] theorem State.mapGens_pending (f : Nat → Gen → Gen) : (s.mapGens f).pending = s.pending := rfl

/-! ### modGen -/

@[simp] theorem State.modGen_now (g : Nat) (f : Gen → Gen) : (s.modGen g f).now = s.now := rfl
@[simp] theorem State.modGen_mains (g : Nat) (f : Gen → Gen) : (s.modGen g f).mains = s.mains := rfl
@[simp] theorem State.modGen_coils (g : Nat) (f : Gen → Gen) : (s.modGen g f).coils = s.coils := rfl
@[simp] theorem State.modGen_pans (g : Nat) (f : Gen → Gen) : (s.modGen g f).pans = s.pans := rfl
@[simp] theorem State.modGen_recalls (g : Nat) (f : Gen → Gen) : (s.modGen g f).recalls = s.recalls := rfl
@[simp] theorem State.modGen_levels (g : Nat) (f : Gen → Gen) : (s.modGen g f).levels = s.levels := rfl
@[simp] theorem State.modGen_route (g : Nat) (f : Gen → Gen) : (s.modGen g f).route = s.route := rfl
@[simp] theorem State.modGen_boardA (g : Nat) (f : Gen → Gen) : (s.modGen g f).boardA = s.boardA := rfl
@[simp] theorem State.modGen_boardB (g : Nat) (f : Gen → Gen) : (s.modGen g f).boardB = s.boardB := rfl
@[simp] theorem State.modGen_alloc (g : Nat) (f : Gen → Gen) : (s.modGen g f).alloc = s.alloc := rfl
@[simp] theorem State.modGen_ctl (g : Nat) (f : Gen → Gen) : (s.modGen g f).ctl = s.ctl := rfl
@[simp] theorem State.modGen_resetting (g : Nat) (f : Gen → Gen) : (s.modGen g f).resetting = s.resetting := rfl
@[simp] theorem State.modGen_softReset (g : Nat) (f : Gen → Gen) : (s.modGen g f).softReset = s.softReset := rfl
@[simp] theorem State.modGen_survey (g : Nat) (f : Gen → Gen) : (s.modGen g f).survey = s.survey := rfl
@[simp] theorem State.modGen_links (g : Nat) (f : Gen → Gen) : (s.modGen g f).links = s.links := rfl
@[simp] theorem State.modGen_store (g : Nat) (f : Gen → Gen) : (s.modGen g f).store = s.store := rfl
@[simp] theorem State.modGen_out (g : Nat) (f : Gen → Gen) : (s.modGen g f).out = s.out := rfl
@[simp] theorem State.modGen_choices (g : Nat) (f : Gen → Gen) : (s.modGen g f).choices = s.choices := rfl
@[simp] theorem State.modGen_pending (g : Nat) (f : Gen → Gen) : (s.modGen g f).pending = s.pending := rfl

/-! ### mapPans -/

@[simp] theorem State.mapPans_now (f : Pan → Pan) : (s.mapPans f).now = s.now := rfl
@[simp] theorem State.mapPans_mains (f : Pan → Pan) : (s.mapPans f).mains = s.mains := rfl
@[simp] theorem State.mapPans_coils (f : Pan → Pan) : (s.mapPans f).coils = s.coils := rfl
@[simp] theorem State.mapPans_recalls (f : Pan → Pan) : (s.mapPans f).recalls = s.recalls := rfl
@[simp] theorem State.mapPans_levels (f : Pan → Pan) : (s.mapPans f).levels = s.levels := rfl
@[simp] theorem State.mapPans_route (f : Pan → Pan) : (s.mapPans f).route = s.route := rfl
@[simp] theorem State.mapPans_boardA (f : Pan → Pan) : (s.mapPans f).boardA = s.boardA := rfl
@[simp] theorem State.mapPans_boardB (f : Pan → Pan) : (s.mapPans f).boardB = s.boardB := rfl
@[simp] theorem State.mapPans_gens (f : Pan → Pan) : (s.mapPans f).gens = s.gens := rfl
@[simp] theorem State.mapPans_alloc (f : Pan → Pan) : (s.mapPans f).alloc = s.alloc := rfl
@[simp] theorem State.mapPans_ctl (f : Pan → Pan) : (s.mapPans f).ctl = s.ctl := rfl
@[simp] theorem State.mapPans_resetting (f : Pan → Pan) : (s.mapPans f).resetting = s.resetting := rfl
@[simp] theorem State.mapPans_softReset (f : Pan → Pan) : (s.mapPans f).softReset = s.softReset := rfl
@[simp] theorem State.mapPans_survey (f : Pan → Pan) : (s.mapPans f).survey = s.survey := rfl
@[simp] theorem State.mapPans_links (f : Pan → Pan) : (s.mapPans f).links = s.links := rfl
@[simp] theorem State.mapPans_store (f : Pan → Pan) : (s.mapPans f).store = s.store := rfl
@[simp] theorem State.mapPans_out (f : Pan → Pan) : (s.mapPans f).out = s.out := rfl
@[simp] theorem State.mapPans_choices (f : Pan → Pan) : (s.mapPans f).choices = s.choices := rfl
@[simp] theorem State.mapPans_pending (f : Pan → Pan) : (s.mapPans f).pending = s.pending := rfl

/-! ### modPan -/

@[simp] theorem State.modPan_now (n : Nat) (f : Pan → Pan) : (s.modPan n f).now = s.now := rfl
@[simp] theorem State.modPan_mains (n : Nat) (f : Pan → Pan) : (s.modPan n f).mains = s.mains := rfl
@[simp] theorem State.modPan_coils (n : Nat) (f : Pan → Pan) : (s.modPan n f).coils = s.coils := rfl
@[simp] theorem State.modPan_recalls (n : Nat) (f : Pan → Pan) : (s.modPan n f).recalls = s.recalls := rfl
@[simp] theorem State.modPan_levels (n : Nat) (f : Pan → Pan) : (s.modPan n f).levels = s.levels := rfl
@[simp] theorem State.modPan_route (n : Nat) (f : Pan → Pan) : (s.modPan n f).route = s.route := rfl
@[simp] theorem State.modPan_boardA (n : Nat) (f : Pan → Pan) : (s.modPan n f).boardA = s.boardA := rfl
@[simp] theorem State.modPan_boardB (n : Nat) (f : Pan → Pan) : (s.modPan n f).boardB = s.boardB := rfl
@[simp] theorem State.modPan_gens (n : Nat) (f : Pan → Pan) : (s.modPan n f).gens = s.gens := rfl
@[simp] theorem State.modPan_alloc (n : Nat) (f : Pan → Pan) : (s.modPan n f).alloc = s.alloc := rfl
@[simp] theorem State.modPan_ctl (n : Nat) (f : Pan → Pan) : (s.modPan n f).ctl = s.ctl := rfl
@[simp] theorem State.modPan_resetting (n : Nat) (f : Pan → Pan) : (s.modPan n f).resetting = s.resetting := rfl
@[simp] theorem State.modPan_softReset (n : Nat) (f : Pan → Pan) : (s.modPan n f).softReset = s.softReset := rfl
@[simp] theorem State.modPan_survey (n : Nat) (f : Pan → Pan) : (s.modPan n f).survey = s.survey := rfl
@[simp] theorem State.modPan_links (n : Nat) (f : Pan → Pan) : (s.modPan n f).links = s.links := rfl
@[simp] theorem State.modPan_store (n : Nat) (f : Pan → Pan) : (s.modPan n f).store = s.store := rfl
@[simp] theorem State.modPan_out (n : Nat) (f : Pan → Pan) : (s.modPan n f).out = s.out := rfl
@[simp] theorem State.modPan_choices (n : Nat) (f : Pan → Pan) : (s.modPan n f).choices = s.choices := rfl
@[simp] theorem State.modPan_pending (n : Nat) (f : Pan → Pan) : (s.modPan n f).pending = s.pending := rfl

/-! ### modPhase -/

@[simp] theorem State.modPhase_now (ph : Phase) (f : PhaseRec → PhaseRec) : (s.modPhase ph f).now = s.now := by cases ph <;> rfl
@[simp] theorem State.modPhase_coils (ph : Phase) (f : PhaseRec → PhaseRec) : (s.modPhase ph f).coils = s.coils := by cases ph <;> rfl
@[simp] theorem State.modPhase_pans (ph : Phase) (f : PhaseRec → PhaseRec) : (s.modPhase ph f).pans = s.pans := by cases ph <;> rfl
@[simp] theorem State.modPhase_recalls (ph : Phase) (f : PhaseRec → PhaseRec) : (s.modPhase ph f).recalls = s.recalls := by cases ph <;> rfl
@[simp] theorem State.modPhase_levels (ph : Phase) (f : PhaseRec → PhaseRec) : (s.modPhase ph f).levels = s.levels := by cases ph <;> rfl
@[simp] theorem State.modPhase_route (ph : Phase) (f : PhaseRec → PhaseRec) : (s.modPhase ph f).route = s.route := by cases ph <;> rfl
@[simp] theorem State.modPhase_boardA (ph : Phase) (f : PhaseRec → PhaseRec) : (s.modPhase ph f).boardA = s.boardA := by cases ph <;> rfl
@[simp] theorem State.modPhase_boardB (ph : Phase) (f : PhaseRec → PhaseRec) : (s.modPhase ph f).boardB = s.boardB := by cases ph <;> rfl
@[simp] theorem State.modPhase_gens (ph : Phase) (f : PhaseRec → PhaseRec) : (s.modPhase ph f).gens = s.gens := by cases ph <;> rfl
@[simp] theorem State.modPhase_alloc (ph : Phase) (f : PhaseRec → PhaseRec) : (s.modPhase ph f).alloc = s.alloc := by cases ph <;> rfl
@[simp] theorem State.modPhase_ctl (ph : Phase) (f : PhaseRec → PhaseRec) : (s.modPhase ph f).ctl = s.ctl := by cases ph <;> rfl
@[simp] theorem State.modPhase_resetting (ph : Phase) (f : PhaseRec → PhaseRec) : (s.modPhase ph f).resetting = s.resetting := by cases ph <;> rfl
@[simp] theorem State.modPhase_softReset (ph : Phase) (f : PhaseRec → PhaseRec) : (s.modPhase ph f).softReset = s.softReset := by cases ph <;> rfl
@[simp] theorem State.modPhase_survey (ph : Phase) (f : PhaseRec → PhaseRec) : (s.modPhase ph f).survey = s.survey := by cases ph <;> rfl
@[simp] theorem State.modPhase_links (ph : Phase) (f : PhaseRec → PhaseRec) : (s.modPhase ph f).links = s.links := by cases ph <;> rfl
@[simp] theorem State.modPhase_store (ph : Phase) (f : PhaseRec → PhaseRec) : (s.modPhase ph f).store = s.store := by cases ph <;> rfl
@[simp] theorem State.modPhase_out (ph : Phase) (f : PhaseRec → PhaseRec) : (s.modPhase ph f).out = s.out := by cases ph <;> rfl
@[simp] theorem State.modPhase_choices (ph : Phase) (f : PhaseRec → PhaseRec) : (s.modPhase ph f).choices = s.choices := by cases ph <;> rfl
@[simp] theorem State.modPhase_pending (ph : Phase) (f : PhaseRec → PhaseRec) : (s.modPhase ph f).pending = s.pending := by cases ph <;> rfl

/-! ### modFrame -/

@[simp] theorem State.modFrame_now (f : FrameRec → FrameRec) : (s.modFrame f).now = s.now := rfl
@[simp] theorem State.modFrame_coils (f : FrameRec → FrameRec) : (s.modFrame f).coils = s.coils := rfl
@[simp] theorem State.modFrame_pans (f : FrameRec → FrameRec) : (s.modFrame f).pans = s.pans := rfl
@[simp] theorem State.modFrame_recalls (f : FrameRec → FrameRec) : (s.modFrame f).recalls = s.recalls := rfl
@[simp] theorem State.modFrame_levels (f : FrameRec → FrameRec) : (s.modFrame f).levels = s.levels := rfl
@[simp] theorem State.modFrame_route (f : FrameRec → FrameRec) : (s.modFrame f).route = s.route := rfl
@[simp] theorem State.modFrame_boardA (f : FrameRec → FrameRec) : (s.modFrame f).boardA = s.boardA := rfl
@[simp] theorem State.modFrame_boardB (f : FrameRec → FrameRec) : (s.modFrame f).boardB = s.boardB := rfl
@[simp] theorem State.modFrame_gens (f : FrameRec → FrameRec) : (s.modFrame f).gens = s.gens := rfl
@[simp] theorem State.modFrame_alloc (f : FrameRec → FrameRec) : (s.modFrame f).alloc = s.alloc := rfl
@[simp] theorem State.modFrame_ctl (f : FrameRec → FrameRec) : (s.modFrame f).ctl = s.ctl := rfl
@[simp] theorem State.modFrame_resetting (f : FrameRec → FrameRec) : (s.modFrame f).resetting = s.resetting := rfl
@[simp] theorem State.modFrame_softReset (f : FrameRec → FrameRec) : (s.modFrame f).softReset = s.softReset := rfl
@[simp] theorem State.modFrame_survey (f : FrameRec → FrameRec) : (s.modFrame f).survey = s.survey := rfl
@[simp] theorem State.modFrame_links (f : FrameRec → FrameRec) : (s.modFrame f).links = s.links := rfl
@[simp] theorem State.modFrame_store (f : FrameRec → FrameRec) : (s.modFrame f).store = s.store := rfl
@[simp] theorem State.modFrame_out (f : FrameRec → FrameRec) : (s.modFrame f).out = s.out := rfl
@[simp] theorem State.modFrame_choices (f : FrameRec → FrameRec) : (s.modFrame f).choices = s.choices := rfl
@[simp] theorem State.modFrame_pending (f : FrameRec → FrameRec) : (s.modFrame f).pending = s.pending := rfl

/-! ### modBoard -/

@[simp] theorem State.modBoard_now (bd : Board) (f : BoardRec → BoardRec) : (s.modBoard bd f).now = s.now := by cases bd <;> rfl
@[simp] theorem State.modBoard_mains (bd : Board) (f : BoardRec → BoardRec) : (s.modBoard bd f).mains = s.mains := by cases bd <;> rfl
@[simp] theorem State.modBoard_coils (bd : Board) (f : BoardRec → BoardRec) : (s.modBoard bd f).coils = s.coils := by cases bd <;> rfl
@[simp] theorem State.modBoard_pans (bd : Board) (f : BoardRec → BoardRec) : (s.modBoard bd f).pans = s.pans := by cases bd <;> rfl
@[simp] theorem State.modBoard_recalls (bd : Board) (f : BoardRec → BoardRec) : (s.modBoard bd f).recalls = s.recalls := by cases bd <;> rfl
@[simp] theorem State.modBoard_levels (bd : Board) (f : BoardRec → BoardRec) : (s.modBoard bd f).levels = s.levels := by cases bd <;> rfl
@[simp] theorem State.modBoard_route (bd : Board) (f : BoardRec → BoardRec) : (s.modBoard bd f).route = s.route := by cases bd <;> rfl
@[simp] theorem State.modBoard_gens (bd : Board) (f : BoardRec → BoardRec) : (s.modBoard bd f).gens = s.gens := by cases bd <;> rfl
@[simp] theorem State.modBoard_alloc (bd : Board) (f : BoardRec → BoardRec) : (s.modBoard bd f).alloc = s.alloc := by cases bd <;> rfl
@[simp] theorem State.modBoard_ctl (bd : Board) (f : BoardRec → BoardRec) : (s.modBoard bd f).ctl = s.ctl := by cases bd <;> rfl
@[simp] theorem State.modBoard_resetting (bd : Board) (f : BoardRec → BoardRec) : (s.modBoard bd f).resetting = s.resetting := by cases bd <;> rfl
@[simp] theorem State.modBoard_softReset (bd : Board) (f : BoardRec → BoardRec) : (s.modBoard bd f).softReset = s.softReset := by cases bd <;> rfl
@[simp] theorem State.modBoard_survey (bd : Board) (f : BoardRec → BoardRec) : (s.modBoard bd f).survey = s.survey := by cases bd <;> rfl
@[simp] theorem State.modBoard_links (bd : Board) (f : BoardRec → BoardRec) : (s.modBoard bd f).links = s.links := by cases bd <;> rfl
@[simp] theorem State.modBoard_store (bd : Board) (f : BoardRec → BoardRec) : (s.modBoard bd f).store = s.store := by cases bd <;> rfl
@[simp] theorem State.modBoard_out (bd : Board) (f : BoardRec → BoardRec) : (s.modBoard bd f).out = s.out := by cases bd <;> rfl
@[simp] theorem State.modBoard_choices (bd : Board) (f : BoardRec → BoardRec) : (s.modBoard bd f).choices = s.choices := by cases bd <;> rfl
@[simp] theorem State.modBoard_pending (bd : Board) (f : BoardRec → BoardRec) : (s.modBoard bd f).pending = s.pending := by cases bd <;> rfl

/-! ### modPartner -/

@[simp] theorem State.modPartner_now (p : Partner) (f : PartnerRec → PartnerRec) : (s.modPartner p f).now = s.now := by cases p <;> rfl
@[simp] theorem State.modPartner_mains (p : Partner) (f : PartnerRec → PartnerRec) : (s.modPartner p f).mains = s.mains := by cases p <;> rfl
@[simp] theorem State.modPartner_coils (p : Partner) (f : PartnerRec → PartnerRec) : (s.modPartner p f).coils = s.coils := by cases p <;> rfl
@[simp] theorem State.modPartner_pans (p : Partner) (f : PartnerRec → PartnerRec) : (s.modPartner p f).pans = s.pans := by cases p <;> rfl
@[simp] theorem State.modPartner_recalls (p : Partner) (f : PartnerRec → PartnerRec) : (s.modPartner p f).recalls = s.recalls := by cases p <;> rfl
@[simp] theorem State.modPartner_levels (p : Partner) (f : PartnerRec → PartnerRec) : (s.modPartner p f).levels = s.levels := by cases p <;> rfl
@[simp] theorem State.modPartner_route (p : Partner) (f : PartnerRec → PartnerRec) : (s.modPartner p f).route = s.route := by cases p <;> rfl
@[simp] theorem State.modPartner_boardA (p : Partner) (f : PartnerRec → PartnerRec) : (s.modPartner p f).boardA = s.boardA := by cases p <;> rfl
@[simp] theorem State.modPartner_boardB (p : Partner) (f : PartnerRec → PartnerRec) : (s.modPartner p f).boardB = s.boardB := by cases p <;> rfl
@[simp] theorem State.modPartner_gens (p : Partner) (f : PartnerRec → PartnerRec) : (s.modPartner p f).gens = s.gens := by cases p <;> rfl
@[simp] theorem State.modPartner_alloc (p : Partner) (f : PartnerRec → PartnerRec) : (s.modPartner p f).alloc = s.alloc := by cases p <;> rfl
@[simp] theorem State.modPartner_ctl (p : Partner) (f : PartnerRec → PartnerRec) : (s.modPartner p f).ctl = s.ctl := by cases p <;> rfl
@[simp] theorem State.modPartner_resetting (p : Partner) (f : PartnerRec → PartnerRec) : (s.modPartner p f).resetting = s.resetting := by cases p <;> rfl
@[simp] theorem State.modPartner_softReset (p : Partner) (f : PartnerRec → PartnerRec) : (s.modPartner p f).softReset = s.softReset := by cases p <;> rfl
@[simp] theorem State.modPartner_survey (p : Partner) (f : PartnerRec → PartnerRec) : (s.modPartner p f).survey = s.survey := by cases p <;> rfl
@[simp] theorem State.modPartner_store (p : Partner) (f : PartnerRec → PartnerRec) : (s.modPartner p f).store = s.store := by cases p <;> rfl
@[simp] theorem State.modPartner_out (p : Partner) (f : PartnerRec → PartnerRec) : (s.modPartner p f).out = s.out := by cases p <;> rfl
@[simp] theorem State.modPartner_choices (p : Partner) (f : PartnerRec → PartnerRec) : (s.modPartner p f).choices = s.choices := by cases p <;> rfl
@[simp] theorem State.modPartner_pending (p : Partner) (f : PartnerRec → PartnerRec) : (s.modPartner p f).pending = s.pending := by cases p <;> rfl

/-! ### modLink -/

@[simp] theorem State.modLink_now (l : Link) (f : LinkRec → LinkRec) : (s.modLink l f).now = s.now := by cases l <;> rfl
@[simp] theorem State.modLink_mains (l : Link) (f : LinkRec → LinkRec) : (s.modLink l f).mains = s.mains := by cases l <;> rfl
@[simp] theorem State.modLink_coils (l : Link) (f : LinkRec → LinkRec) : (s.modLink l f).coils = s.coils := by cases l <;> rfl
@[simp] theorem State.modLink_pans (l : Link) (f : LinkRec → LinkRec) : (s.modLink l f).pans = s.pans := by cases l <;> rfl
@[simp] theorem State.modLink_recalls (l : Link) (f : LinkRec → LinkRec) : (s.modLink l f).recalls = s.recalls := by cases l <;> rfl
@[simp] theorem State.modLink_levels (l : Link) (f : LinkRec → LinkRec) : (s.modLink l f).levels = s.levels := by cases l <;> rfl
@[simp] theorem State.modLink_route (l : Link) (f : LinkRec → LinkRec) : (s.modLink l f).route = s.route := by cases l <;> rfl
@[simp] theorem State.modLink_boardA (l : Link) (f : LinkRec → LinkRec) : (s.modLink l f).boardA = s.boardA := by cases l <;> rfl
@[simp] theorem State.modLink_boardB (l : Link) (f : LinkRec → LinkRec) : (s.modLink l f).boardB = s.boardB := by cases l <;> rfl
@[simp] theorem State.modLink_gens (l : Link) (f : LinkRec → LinkRec) : (s.modLink l f).gens = s.gens := by cases l <;> rfl
@[simp] theorem State.modLink_alloc (l : Link) (f : LinkRec → LinkRec) : (s.modLink l f).alloc = s.alloc := by cases l <;> rfl
@[simp] theorem State.modLink_ctl (l : Link) (f : LinkRec → LinkRec) : (s.modLink l f).ctl = s.ctl := by cases l <;> rfl
@[simp] theorem State.modLink_resetting (l : Link) (f : LinkRec → LinkRec) : (s.modLink l f).resetting = s.resetting := by cases l <;> rfl
@[simp] theorem State.modLink_softReset (l : Link) (f : LinkRec → LinkRec) : (s.modLink l f).softReset = s.softReset := by cases l <;> rfl
@[simp] theorem State.modLink_survey (l : Link) (f : LinkRec → LinkRec) : (s.modLink l f).survey = s.survey := by cases l <;> rfl
@[simp] theorem State.modLink_store (l : Link) (f : LinkRec → LinkRec) : (s.modLink l f).store = s.store := by cases l <;> rfl
@[simp] theorem State.modLink_out (l : Link) (f : LinkRec → LinkRec) : (s.modLink l f).out = s.out := by cases l <;> rfl
@[simp] theorem State.modLink_choices (l : Link) (f : LinkRec → LinkRec) : (s.modLink l f).choices = s.choices := by cases l <;> rfl
@[simp] theorem State.modLink_pending (l : Link) (f : LinkRec → LinkRec) : (s.modLink l f).pending = s.pending := by cases l <;> rfl

/-! ### emit -/

@[simp] theorem State.emit_now (o : Output) : (s.emit o).now = s.now := rfl
@[simp] theorem State.emit_mains (o : Output) : (s.emit o).mains = s.mains := rfl
@[simp] theorem State.emit_coils (o : Output) : (s.emit o).coils = s.coils := rfl
@[simp] theorem State.emit_pans (o : Output) : (s.emit o).pans = s.pans := rfl
@[simp] theorem State.emit_recalls (o : Output) : (s.emit o).recalls = s.recalls := rfl
@[simp] theorem State.emit_levels (o : Output) : (s.emit o).levels = s.levels := rfl
@[simp] theorem State.emit_route (o : Output) : (s.emit o).route = s.route := rfl
@[simp] theorem State.emit_boardA (o : Output) : (s.emit o).boardA = s.boardA := rfl
@[simp] theorem State.emit_boardB (o : Output) : (s.emit o).boardB = s.boardB := rfl
@[simp] theorem State.emit_gens (o : Output) : (s.emit o).gens = s.gens := rfl
@[simp] theorem State.emit_alloc (o : Output) : (s.emit o).alloc = s.alloc := rfl
@[simp] theorem State.emit_ctl (o : Output) : (s.emit o).ctl = s.ctl := rfl
@[simp] theorem State.emit_resetting (o : Output) : (s.emit o).resetting = s.resetting := rfl
@[simp] theorem State.emit_softReset (o : Output) : (s.emit o).softReset = s.softReset := rfl
@[simp] theorem State.emit_survey (o : Output) : (s.emit o).survey = s.survey := rfl
@[simp] theorem State.emit_links (o : Output) : (s.emit o).links = s.links := rfl
@[simp] theorem State.emit_store (o : Output) : (s.emit o).store = s.store := rfl
@[simp] theorem State.emit_choices (o : Output) : (s.emit o).choices = s.choices := rfl
@[simp] theorem State.emit_pending (o : Output) : (s.emit o).pending = s.pending := rfl

/-! ### elapse -/

@[simp] theorem State.elapse_mains (dt : Nat) : (s.elapse dt).mains = s.mains := rfl
@[simp] theorem State.elapse_coils (dt : Nat) : (s.elapse dt).coils = s.coils := rfl
@[simp] theorem State.elapse_recalls (dt : Nat) : (s.elapse dt).recalls = s.recalls := rfl
@[simp] theorem State.elapse_levels (dt : Nat) : (s.elapse dt).levels = s.levels := rfl
@[simp] theorem State.elapse_route (dt : Nat) : (s.elapse dt).route = s.route := rfl
@[simp] theorem State.elapse_boardA (dt : Nat) : (s.elapse dt).boardA = s.boardA := rfl
@[simp] theorem State.elapse_boardB (dt : Nat) : (s.elapse dt).boardB = s.boardB := rfl
@[simp] theorem State.elapse_gens (dt : Nat) : (s.elapse dt).gens = s.gens := rfl
@[simp] theorem State.elapse_alloc (dt : Nat) : (s.elapse dt).alloc = s.alloc := rfl
@[simp] theorem State.elapse_ctl (dt : Nat) : (s.elapse dt).ctl = s.ctl := rfl
@[simp] theorem State.elapse_resetting (dt : Nat) : (s.elapse dt).resetting = s.resetting := rfl
@[simp] theorem State.elapse_softReset (dt : Nat) : (s.elapse dt).softReset = s.softReset := rfl
@[simp] theorem State.elapse_survey (dt : Nat) : (s.elapse dt).survey = s.survey := rfl
@[simp] theorem State.elapse_links (dt : Nat) : (s.elapse dt).links = s.links := rfl
@[simp] theorem State.elapse_store (dt : Nat) : (s.elapse dt).store = s.store := rfl
@[simp] theorem State.elapse_out (dt : Nat) : (s.elapse dt).out = s.out := rfl
@[simp] theorem State.elapse_choices (dt : Nat) : (s.elapse dt).choices = s.choices := rfl
@[simp] theorem State.elapse_pending (dt : Nat) : (s.elapse dt).pending = s.pending := rfl

/-! ### elapseTo -/

@[simp] theorem State.elapseTo_mains (t : Nat) : (s.elapseTo t).mains = s.mains := rfl
@[simp] theorem State.elapseTo_coils (t : Nat) : (s.elapseTo t).coils = s.coils := rfl
@[simp] theorem State.elapseTo_recalls (t : Nat) : (s.elapseTo t).recalls = s.recalls := rfl
@[simp] theorem State.elapseTo_levels (t : Nat) : (s.elapseTo t).levels = s.levels := rfl
@[simp] theorem State.elapseTo_route (t : Nat) : (s.elapseTo t).route = s.route := rfl
@[simp] theorem State.elapseTo_boardA (t : Nat) : (s.elapseTo t).boardA = s.boardA := rfl
@[simp] theorem State.elapseTo_boardB (t : Nat) : (s.elapseTo t).boardB = s.boardB := rfl
@[simp] theorem State.elapseTo_gens (t : Nat) : (s.elapseTo t).gens = s.gens := rfl
@[simp] theorem State.elapseTo_alloc (t : Nat) : (s.elapseTo t).alloc = s.alloc := rfl
@[simp] theorem State.elapseTo_ctl (t : Nat) : (s.elapseTo t).ctl = s.ctl := rfl
@[simp] theorem State.elapseTo_resetting (t : Nat) : (s.elapseTo t).resetting = s.resetting := rfl
@[simp] theorem State.elapseTo_softReset (t : Nat) : (s.elapseTo t).softReset = s.softReset := rfl
@[simp] theorem State.elapseTo_survey (t : Nat) : (s.elapseTo t).survey = s.survey := rfl
@[simp] theorem State.elapseTo_links (t : Nat) : (s.elapseTo t).links = s.links := rfl
@[simp] theorem State.elapseTo_store (t : Nat) : (s.elapseTo t).store = s.store := rfl
@[simp] theorem State.elapseTo_out (t : Nat) : (s.elapseTo t).out = s.out := rfl
@[simp] theorem State.elapseTo_choices (t : Nat) : (s.elapseTo t).choices = s.choices := rfl
@[simp] theorem State.elapseTo_pending (t : Nat) : (s.elapseTo t).pending = s.pending := rfl

/-! ### capture -/

@[simp] theorem State.capture_now (e : Event) : (s.capture e).now = s.now := rfl
@[simp] theorem State.capture_mains (e : Event) : (s.capture e).mains = s.mains := rfl
@[simp] theorem State.capture_coils (e : Event) : (s.capture e).coils = s.coils := rfl
@[simp] theorem State.capture_pans (e : Event) : (s.capture e).pans = s.pans := rfl
@[simp] theorem State.capture_recalls (e : Event) : (s.capture e).recalls = s.recalls := rfl
@[simp] theorem State.capture_levels (e : Event) : (s.capture e).levels = s.levels := rfl
@[simp] theorem State.capture_route (e : Event) : (s.capture e).route = s.route := rfl
@[simp] theorem State.capture_boardA (e : Event) : (s.capture e).boardA = s.boardA := rfl
@[simp] theorem State.capture_boardB (e : Event) : (s.capture e).boardB = s.boardB := rfl
@[simp] theorem State.capture_gens (e : Event) : (s.capture e).gens = s.gens := rfl
@[simp] theorem State.capture_alloc (e : Event) : (s.capture e).alloc = s.alloc := rfl
@[simp] theorem State.capture_ctl (e : Event) : (s.capture e).ctl = s.ctl := rfl
@[simp] theorem State.capture_resetting (e : Event) : (s.capture e).resetting = s.resetting := rfl
@[simp] theorem State.capture_softReset (e : Event) : (s.capture e).softReset = s.softReset := rfl
@[simp] theorem State.capture_survey (e : Event) : (s.capture e).survey = s.survey := rfl
@[simp] theorem State.capture_store (e : Event) : (s.capture e).store = s.store := rfl
@[simp] theorem State.capture_out (e : Event) : (s.capture e).out = s.out := rfl
@[simp] theorem State.capture_choices (e : Event) : (s.capture e).choices = s.choices := rfl
@[simp] theorem State.capture_pending (e : Event) : (s.capture e).pending = s.pending := rfl

/-! ### withPending -/

@[simp] theorem State.withPending_now (q : List Instr) : (s.withPending q).now = s.now := rfl
@[simp] theorem State.withPending_mains (q : List Instr) : (s.withPending q).mains = s.mains := rfl
@[simp] theorem State.withPending_coils (q : List Instr) : (s.withPending q).coils = s.coils := rfl
@[simp] theorem State.withPending_pans (q : List Instr) : (s.withPending q).pans = s.pans := rfl
@[simp] theorem State.withPending_recalls (q : List Instr) : (s.withPending q).recalls = s.recalls := rfl
@[simp] theorem State.withPending_levels (q : List Instr) : (s.withPending q).levels = s.levels := rfl
@[simp] theorem State.withPending_route (q : List Instr) : (s.withPending q).route = s.route := rfl
@[simp] theorem State.withPending_boardA (q : List Instr) : (s.withPending q).boardA = s.boardA := rfl
@[simp] theorem State.withPending_boardB (q : List Instr) : (s.withPending q).boardB = s.boardB := rfl
@[simp] theorem State.withPending_gens (q : List Instr) : (s.withPending q).gens = s.gens := rfl
@[simp] theorem State.withPending_alloc (q : List Instr) : (s.withPending q).alloc = s.alloc := rfl
@[simp] theorem State.withPending_ctl (q : List Instr) : (s.withPending q).ctl = s.ctl := rfl
@[simp] theorem State.withPending_resetting (q : List Instr) : (s.withPending q).resetting = s.resetting := rfl
@[simp] theorem State.withPending_softReset (q : List Instr) : (s.withPending q).softReset = s.softReset := rfl
@[simp] theorem State.withPending_survey (q : List Instr) : (s.withPending q).survey = s.survey := rfl
@[simp] theorem State.withPending_links (q : List Instr) : (s.withPending q).links = s.links := rfl
@[simp] theorem State.withPending_store (q : List Instr) : (s.withPending q).store = s.store := rfl
@[simp] theorem State.withPending_out (q : List Instr) : (s.withPending q).out = s.out := rfl
@[simp] theorem State.withPending_choices (q : List Instr) : (s.withPending q).choices = s.choices := rfl

/-! ### The fields that an update rewrites -/

@[simp] theorem State.emit_out (o : Output) : (s.emit o).out = s.out ++ [o] := rfl
@[simp] theorem State.elapse_now (dt : Nat) : (s.elapse dt).now = s.now + dt := rfl
@[simp] theorem State.elapseTo_now (t : Nat) : (s.elapseTo t).now = max s.now t := by
  simp only [State.elapseTo, State.elapse_now]; omega
@[simp] theorem State.withPending_pending (q : List Instr) : (s.withPending q).pending = q := rfl
@[simp] theorem State.mapPans_pans (f : Pan → Pan) : (s.mapPans f).pans = s.pans.map f := rfl
@[simp] theorem State.modPan_pans (n : Nat) (f : Pan → Pan) :
    (s.modPan n f).pans = s.pans.map (fun p => if p.number = n then f p else p) := rfl
@[simp] theorem State.modFrame_mains (f : FrameRec → FrameRec) :
    (s.modFrame f).mains = { s.mains with frame := f s.mains.frame } := rfl

end Sys2Proof.Machine
end

