-- ==== Sys2Proof/Laws/Records.lean ====
section
/-! SUPPORT. Reading a record after a record has been rewritten: coils, generators, pans, phases, boards, partners
and links. -/

namespace Sys2Proof.Machine

variable (s : State)

/-! ### Records kept in lists -/

theorem State.mapCoils_getElem? (f : Nat → Coil → Coil) (c : Nat) :
    (s.mapCoils f).coils[c]? = (s.coils[c]?).map (f c) := by
  simp only [State.mapCoils, List.getElem?_map, List.getElem?_zipIdx]
  cases s.coils[c]? <;> simp

theorem State.mapGens_getElem? (f : Nat → Gen → Gen) (g : Nat) :
    (s.mapGens f).gens[g]? = (s.gens[g]?).map (f g) := by
  simp only [State.mapGens, List.getElem?_map, List.getElem?_zipIdx]
  cases s.gens[g]? <;> simp

@[simp] theorem State.mapCoils_length (f : Nat → Coil → Coil) : (s.mapCoils f).coils.length = s.coils.length := by
  simp [State.mapCoils]

@[simp] theorem State.mapGens_length (f : Nat → Gen → Gen) : (s.mapGens f).gens.length = s.gens.length := by
  simp [State.mapGens]

@[simp] theorem State.modGen_length (g : Nat) (f : Gen → Gen) : (s.modGen g f).gens.length = s.gens.length :=
  State.mapGens_length s _

/-- A coil record after all have been rewritten. -/
theorem State.coil_mapCoils (f : Nat → Coil → Coil) {c : Nat} (h : c < s.coils.length) :
    (s.mapCoils f).coil c = f c (s.coil c) := by
  simp [State.coil, State.mapCoils_getElem?, List.getElem?_eq_getElem h]

/-- A generator record after all have been rewritten. -/
theorem State.gen_mapGens (f : Nat → Gen → Gen) {g : Nat} (h : g < s.gens.length) :
    (s.mapGens f).gen g = f g (s.gen g) := by
  simp [State.gen, State.mapGens_getElem?, List.getElem?_eq_getElem h]

/-- A generator record after one has been rewritten. -/
theorem State.gen_modGen (n : Nat) (f : Gen → Gen) {g : Nat} (h : g < s.gens.length) :
    (s.modGen n f).gen g = if g = n then f (s.gen g) else s.gen g := State.gen_mapGens s _ h

theorem State.gen_modGen_ne {n g : Nat} (f : Gen → Gen) (h : g ≠ n) : (s.modGen n f).gen g = s.gen g := by
  simp only [State.gen, State.modGen, State.mapGens_getElem?]
  cases s.gens[g]? <;> simp [h]

/-- The coil records one by one determine the list of all 48. -/
theorem coils_ext {a b : List Coil} (ha : a.length = 48) (hb : b.length = 48)
    (h : ∀ c < 48, (a[c]?).getD Coil.initial = (b[c]?).getD Coil.initial) : a = b := by
  apply List.ext_getElem (by omega)
  intro c h1 h2
  have := h c (by omega)
  simpa [List.getElem?_eq_getElem h1, List.getElem?_eq_getElem h2] using this

/-- The generator records one by one determine the list of all eight. -/
theorem gens_ext {a b : List Gen} (ha : a.length = 8) (hb : b.length = 8)
    (h : ∀ g < 8, (a[g]?).getD Gen.initial = (b[g]?).getD Gen.initial) : a = b := by
  apply List.ext_getElem (by omega)
  intro c h1 h2
  have := h c (by omega)
  simpa [List.getElem?_eq_getElem h1, List.getElem?_eq_getElem h2] using this

/-- A coil record depends on the coil list alone. -/
theorem State.coil_congr {s t : State} (h : t.coils = s.coils) (c : Nat) : t.coil c = s.coil c := by
  simp only [State.coil, h]

/-- A generator record depends on the generator list alone. -/
theorem State.gen_congr {s t : State} (h : t.gens = s.gens) (g : Nat) : t.gen g = s.gen g := by
  simp only [State.gen, h]

/-- A pan record that is found stands in the table under its number. -/
theorem findPan_some {pans : List Pan} {n : Nat} {p : Pan} (h : findPan pans n = some p) : p ∈ pans ∧ p.number = n :=
  ⟨List.mem_of_find?_eq_some h, by simpa using List.find?_some h⟩

/-- Finding a pan after every record has been rewritten under its own number. -/
theorem findPan_map (f : Pan → Pan) (hf : ∀ p, (f p).number = p.number) (pans : List Pan) (n : Nat) :
    findPan (pans.map f) n = (findPan pans n).map f := by
  induction pans with
  | nil => rfl
  | cons p rest ih =>
    simp only [findPan, List.map_cons, List.find?_cons, hf] at ih ⊢
    cases decide (p.number = n) <;> simp [ih]

/-! ### Phases, boards, partners and links -/

@[simp] theorem State.phase_modPhase (ph : Phase) (f : PhaseRec → PhaseRec) :
    (s.modPhase ph f).phase ph = f (s.phase ph) := by cases ph <;> rfl

theorem State.phase_modPhase_ne {ph q : Phase} (f : PhaseRec → PhaseRec) (h : q ≠ ph) :
    (s.modPhase ph f).phase q = s.phase q := by cases ph <;> cases q <;> first | rfl | exact absurd rfl h

@[simp] theorem State.modPhase_frame (ph : Phase) (f : PhaseRec → PhaseRec) :
    (s.modPhase ph f).mains.frame = s.mains.frame := by cases ph <;> rfl

@[simp] theorem State.board_modBoard (bd : Board) (f : BoardRec → BoardRec) :
    (s.modBoard bd f).board bd = f (s.board bd) := by cases bd <;> rfl

theorem State.board_modBoard_ne {bd q : Board} (f : BoardRec → BoardRec) (h : q ≠ bd) :
    (s.modBoard bd f).board q = s.board q := by cases bd <;> cases q <;> first | rfl | exact absurd rfl h

@[simp] theorem State.partner_modPartner (p : Partner) (f : PartnerRec → PartnerRec) :
    (s.modPartner p f).partner p = f (s.partner p) := by cases p <;> rfl

theorem State.partner_modPartner_ne {p q : Partner} (f : PartnerRec → PartnerRec) (h : q ≠ p) :
    (s.modPartner p f).partner q = s.partner q := by cases p <;> cases q <;> first | rfl | exact absurd rfl h

@[simp] theorem State.link_modLink (l : Link) (f : LinkRec → LinkRec) : (s.modLink l f).link l = f (s.link l) := by
  cases l <;> rfl

theorem State.link_modLink_ne {l m : Link} (f : LinkRec → LinkRec) (h : m ≠ l) :
    (s.modLink l f).link m = s.link m := by cases l <;> cases m <;> first | rfl | exact absurd rfl h

@[simp] theorem State.link_partnerLink (p : Partner) : s.link (partnerLink p) = (s.partner p).link := by cases p <;> rfl

/-- A board's presence depends on the links alone. -/
theorem State.boardLink_congr {s t : State} (h : t.links = s.links) (bd : Board) : t.boardLink bd = s.boardLink bd := by
  cases bd <;> simp only [State.boardLink, State.link, boardLinkId, h]

/-- The phases, boards, partners and links of a state whose record of them is another's. -/
theorem State.phase_congr {s t : State} (h : t.mains = s.mains) (ph : Phase) : t.phase ph = s.phase ph := by
  cases ph <;> simp only [State.phase, h]

theorem State.board_congr {s t : State} (ha : t.boardA = s.boardA) (hb : t.boardB = s.boardB) (bd : Board) :
    t.board bd = s.board bd := by cases bd <;> simp only [State.board, ha, hb]

theorem State.partner_congr {s t : State} (h : t.links = s.links) (p : Partner) : t.partner p = s.partner p := by
  cases p <;> simp only [State.partner, h]

theorem State.link_congr {s t : State} (h : t.links = s.links) (l : Link) : t.link l = s.link l := by
  cases l <;> simp only [State.link, h]

/-! ### Captures leave the links' presence and queues alone (R166) -/

@[simp] theorem enterEvent_link (e : Event) (r : PartnerRec) : (enterEvent e r).link = r.link := by
  unfold enterEvent; split <;> [skip; rfl]; split <;> rfl

@[simp] theorem enterEvent_enabled (e : Event) (r : PartnerRec) : (enterEvent e r).enabled = r.enabled := by
  unfold enterEvent; split <;> [skip; rfl]; split <;> rfl

@[simp] theorem enterEvent_sending (e : Event) (r : PartnerRec) : (enterEvent e r).sending = r.sending := by
  unfold enterEvent; split <;> [skip; rfl]; split <;> rfl

@[simp] theorem State.capture_link (e : Event) (l : Link) : (s.capture e).link l = s.link l := by
  cases l <;> simp [State.link, State.capture]

@[simp] theorem State.capture_boardLink (e : Event) (bd : Board) : (s.capture e).boardLink bd = s.boardLink bd := by
  simp [State.boardLink]

@[simp] theorem State.capture_partner (e : Event) (p : Partner) :
    (s.capture e).partner p = enterEvent e (s.partner p) := by cases p <;> rfl

/-- What a capture enters: the event where it is enabled or always captured, and no other (R166). -/
theorem holds_withEvent (set : EventSet) (e x : Event) : holds (withEvent set e) x = (holds set x || decide (x = e)) := by
  unfold holds withEvent
  rw [BitVec.getLsbD_or]
  congr 1
  cases e <;> cases x <;> rfl

theorem holds_enterEvent (e x : Event) (r : PartnerRec) :
    holds (enterEvent e r).captured x =
      (holds r.captured x || (decide (x = e) && (holds r.enabled e || alwaysCaptured e))) := by
  unfold enterEvent
  cases hc : holds r.captured e <;> cases he : holds r.enabled e || alwaysCaptured e <;>
    cases r.link.state.up <;> cases r.noticePending <;> by_cases hx : x = e <;>
    simp_all [holds_withEvent]

end Sys2Proof.Machine
end

