-- ==== Sys2Proof/Laws/Frames.lean ====
section
/-! SUPPORT. What each shared operation leaves alone: `State.<operation>_frame` names every field of the state, and the
parts of changed fields that other blocks read, which the operation does not touch. -/

namespace Sys2Proof.Machine

variable (s : State)

@[simp] theorem State.captureAll_frame (es : List Event) :
    (s.captureAll es).now = s.now ∧ (s.captureAll es).mains = s.mains ∧ (s.captureAll es).coils = s.coils ∧
      (s.captureAll es).pans = s.pans ∧ (s.captureAll es).recalls = s.recalls ∧
      (s.captureAll es).levels = s.levels ∧ (s.captureAll es).route = s.route ∧
      (s.captureAll es).boardA = s.boardA ∧ (s.captureAll es).boardB = s.boardB ∧ (s.captureAll es).gens = s.gens ∧
      (s.captureAll es).alloc = s.alloc ∧ (s.captureAll es).ctl = s.ctl ∧
      (s.captureAll es).resetting = s.resetting ∧ (s.captureAll es).softReset = s.softReset ∧
      (s.captureAll es).survey = s.survey ∧ (s.captureAll es).store = s.store ∧ (s.captureAll es).out = s.out ∧
      (s.captureAll es).choices = s.choices ∧ (s.captureAll es).pending = s.pending ∧
      (∀ l, (s.captureAll es).link l = s.link l) := by
  induction es generalizing s with
  | nil => simp [State.captureAll]
  | cons e rest ih => simpa [State.captureAll] using ih (s.capture e)

@[simp] theorem State.judgeLine_frame (bd : Board) :
    (s.judgeLine bd).now = s.now ∧ (s.judgeLine bd).mains = s.mains ∧ (s.judgeLine bd).coils = s.coils ∧
      (s.judgeLine bd).pans = s.pans ∧ (s.judgeLine bd).recalls = s.recalls ∧ (s.judgeLine bd).levels = s.levels ∧
      (s.judgeLine bd).route = s.route ∧ (s.judgeLine bd).gens = s.gens ∧ (s.judgeLine bd).alloc = s.alloc ∧
      (s.judgeLine bd).ctl = s.ctl ∧ (s.judgeLine bd).resetting = s.resetting ∧
      (s.judgeLine bd).softReset = s.softReset ∧ (s.judgeLine bd).survey = s.survey ∧
      (s.judgeLine bd).links = s.links ∧ (s.judgeLine bd).store = s.store ∧ (s.judgeLine bd).out = s.out ∧
      (s.judgeLine bd).choices = s.choices ∧ (s.judgeLine bd).pending = s.pending := by
  unfold State.judgeLine; (repeat' split) <;> simp

@[simp] theorem State.judgeLines_frame :
    s.judgeLines.now = s.now ∧ s.judgeLines.mains = s.mains ∧ s.judgeLines.coils = s.coils ∧
      s.judgeLines.pans = s.pans ∧ s.judgeLines.recalls = s.recalls ∧ s.judgeLines.levels = s.levels ∧
      s.judgeLines.route = s.route ∧ s.judgeLines.gens = s.gens ∧ s.judgeLines.alloc = s.alloc ∧
      s.judgeLines.ctl = s.ctl ∧ s.judgeLines.resetting = s.resetting ∧ s.judgeLines.softReset = s.softReset ∧
      s.judgeLines.survey = s.survey ∧ s.judgeLines.links = s.links ∧ s.judgeLines.store = s.store ∧
      s.judgeLines.out = s.out ∧ s.judgeLines.choices = s.choices ∧ s.judgeLines.pending = s.pending := by
  unfold State.judgeLines; simp

@[simp] theorem State.judgeAutoOff_frame :
    s.judgeAutoOff.now = s.now ∧ s.judgeAutoOff.mains = s.mains ∧ s.judgeAutoOff.coils = s.coils ∧
      s.judgeAutoOff.pans = s.pans ∧ s.judgeAutoOff.recalls = s.recalls ∧ s.judgeAutoOff.route = s.route ∧
      s.judgeAutoOff.boardA = s.boardA ∧ s.judgeAutoOff.boardB = s.boardB ∧ s.judgeAutoOff.gens = s.gens ∧
      s.judgeAutoOff.alloc = s.alloc ∧ s.judgeAutoOff.ctl = s.ctl ∧ s.judgeAutoOff.resetting = s.resetting ∧
      s.judgeAutoOff.softReset = s.softReset ∧ s.judgeAutoOff.survey = s.survey ∧ s.judgeAutoOff.links = s.links ∧
      s.judgeAutoOff.store = s.store ∧ s.judgeAutoOff.out = s.out ∧ s.judgeAutoOff.choices = s.choices ∧
      s.judgeAutoOff.pending = s.pending ∧ s.judgeAutoOff.levels.pause = s.levels.pause ∧
      s.judgeAutoOff.levels.demand = s.levels.demand := by
  unfold State.judgeAutoOff; (repeat' split) <;> simp

@[simp] theorem State.emptyWindows_frame :
    s.emptyWindows.now = s.now ∧ s.emptyWindows.mains = s.mains ∧ s.emptyWindows.pans = s.pans ∧
      s.emptyWindows.recalls = s.recalls ∧ s.emptyWindows.levels = s.levels ∧ s.emptyWindows.route = s.route ∧
      s.emptyWindows.boardA = s.boardA ∧ s.emptyWindows.boardB = s.boardB ∧ s.emptyWindows.gens = s.gens ∧
      s.emptyWindows.alloc = s.alloc ∧ s.emptyWindows.ctl = s.ctl ∧ s.emptyWindows.resetting = s.resetting ∧
      s.emptyWindows.softReset = s.softReset ∧ s.emptyWindows.survey = s.survey ∧ s.emptyWindows.links = s.links ∧
      s.emptyWindows.store = s.store ∧ s.emptyWindows.out = s.out ∧ s.emptyWindows.choices = s.choices ∧
      s.emptyWindows.pending = s.pending ∧ s.emptyWindows.coils.length = s.coils.length := by
  unfold State.emptyWindows; simp

@[simp] theorem State.takeUpExclusions_frame :
    s.takeUpExclusions.now = s.now ∧ s.takeUpExclusions.mains = s.mains ∧ s.takeUpExclusions.pans = s.pans ∧
      s.takeUpExclusions.recalls = s.recalls ∧ s.takeUpExclusions.levels = s.levels ∧
      s.takeUpExclusions.route = s.route ∧ s.takeUpExclusions.boardA = s.boardA ∧
      s.takeUpExclusions.boardB = s.boardB ∧ s.takeUpExclusions.gens = s.gens ∧
      s.takeUpExclusions.alloc = s.alloc ∧ s.takeUpExclusions.ctl = s.ctl ∧
      s.takeUpExclusions.resetting = s.resetting ∧ s.takeUpExclusions.softReset = s.softReset ∧
      s.takeUpExclusions.survey = s.survey ∧ s.takeUpExclusions.links = s.links ∧
      s.takeUpExclusions.store = s.store ∧ s.takeUpExclusions.out = s.out ∧
      s.takeUpExclusions.choices = s.choices ∧ s.takeUpExclusions.pending = s.pending ∧
      s.takeUpExclusions.coils.length = s.coils.length := by
  unfold State.takeUpExclusions; simp

@[simp] theorem State.clearHalf_frame (bd : Board) :
    (s.clearHalf bd).now = s.now ∧ (s.clearHalf bd).mains = s.mains ∧ (s.clearHalf bd).pans = s.pans ∧
      (s.clearHalf bd).recalls = s.recalls ∧ (s.clearHalf bd).levels = s.levels ∧
      (s.clearHalf bd).route = s.route ∧ (s.clearHalf bd).boardA = s.boardA ∧ (s.clearHalf bd).boardB = s.boardB ∧
      (s.clearHalf bd).gens = s.gens ∧ (s.clearHalf bd).alloc = s.alloc ∧ (s.clearHalf bd).ctl = s.ctl ∧
      (s.clearHalf bd).resetting = s.resetting ∧ (s.clearHalf bd).softReset = s.softReset ∧
      (s.clearHalf bd).survey = s.survey ∧ (s.clearHalf bd).links = s.links ∧ (s.clearHalf bd).store = s.store ∧
      (s.clearHalf bd).out = s.out ∧ (s.clearHalf bd).choices = s.choices ∧ (s.clearHalf bd).pending = s.pending ∧
      (s.clearHalf bd).coils.length = s.coils.length := by
  unfold State.clearHalf; simp

@[simp] theorem State.takeBaselines_frame (f : Nat → Nat) :
    (s.takeBaselines f).now = s.now ∧ (s.takeBaselines f).mains = s.mains ∧ (s.takeBaselines f).pans = s.pans ∧
      (s.takeBaselines f).recalls = s.recalls ∧ (s.takeBaselines f).levels = s.levels ∧
      (s.takeBaselines f).route = s.route ∧ (s.takeBaselines f).boardA = s.boardA ∧
      (s.takeBaselines f).boardB = s.boardB ∧ (s.takeBaselines f).gens = s.gens ∧
      (s.takeBaselines f).alloc = s.alloc ∧ (s.takeBaselines f).ctl = s.ctl ∧
      (s.takeBaselines f).resetting = s.resetting ∧ (s.takeBaselines f).softReset = s.softReset ∧
      (s.takeBaselines f).survey = s.survey ∧ (s.takeBaselines f).links = s.links ∧
      (s.takeBaselines f).store = s.store ∧ (s.takeBaselines f).out = s.out ∧
      (s.takeBaselines f).choices = s.choices ∧ (s.takeBaselines f).pending = s.pending ∧
      (s.takeBaselines f).coils.length = s.coils.length := by
  unfold State.takeBaselines; simp

@[simp] theorem State.showroomChanged_frame :
    s.showroomChanged.now = s.now ∧ s.showroomChanged.mains = s.mains ∧ s.showroomChanged.pans = s.pans ∧
      s.showroomChanged.recalls = s.recalls ∧ s.showroomChanged.levels = s.levels ∧
      s.showroomChanged.route = s.route ∧ s.showroomChanged.boardA = s.boardA ∧
      s.showroomChanged.boardB = s.boardB ∧ s.showroomChanged.gens = s.gens ∧ s.showroomChanged.alloc = s.alloc ∧
      s.showroomChanged.ctl = s.ctl ∧ s.showroomChanged.resetting = s.resetting ∧
      s.showroomChanged.softReset = s.softReset ∧ s.showroomChanged.survey = s.survey ∧
      s.showroomChanged.links = s.links ∧ s.showroomChanged.store = s.store ∧ s.showroomChanged.out = s.out ∧
      s.showroomChanged.choices = s.choices ∧ s.showroomChanged.pending = s.pending ∧
      s.showroomChanged.coils.length = s.coils.length := by
  unfold State.showroomChanged; dsimp only; (repeat' split) <;> simp

@[simp] theorem State.openImage_frame :
    s.openImage.now = s.now ∧ s.openImage.mains = s.mains ∧ s.openImage.recalls = s.recalls ∧
      s.openImage.levels = s.levels ∧ s.openImage.route = s.route ∧ s.openImage.boardA = s.boardA ∧
      s.openImage.boardB = s.boardB ∧ s.openImage.alloc = s.alloc ∧ s.openImage.ctl = s.ctl ∧
      s.openImage.resetting = s.resetting ∧ s.openImage.softReset = s.softReset ∧ s.openImage.survey = s.survey ∧
      s.openImage.links = s.links ∧ s.openImage.store = s.store ∧ s.openImage.out = s.out ∧
      s.openImage.choices = s.choices ∧ s.openImage.pending = s.pending ∧
      s.openImage.coils.length = s.coils.length ∧ s.openImage.gens.length = s.gens.length := by
  unfold State.openImage; simp

@[simp] theorem State.sendStopOrder_frame (w : List Nat) (bd : Board) :
    (s.sendStopOrder w bd).now = s.now ∧ (s.sendStopOrder w bd).mains = s.mains ∧
      (s.sendStopOrder w bd).coils = s.coils ∧ (s.sendStopOrder w bd).pans = s.pans ∧
      (s.sendStopOrder w bd).recalls = s.recalls ∧ (s.sendStopOrder w bd).levels = s.levels ∧
      (s.sendStopOrder w bd).route = s.route ∧ (s.sendStopOrder w bd).boardA = s.boardA ∧
      (s.sendStopOrder w bd).boardB = s.boardB ∧ (s.sendStopOrder w bd).alloc = s.alloc ∧
      (s.sendStopOrder w bd).ctl = s.ctl ∧ (s.sendStopOrder w bd).resetting = s.resetting ∧
      (s.sendStopOrder w bd).softReset = s.softReset ∧ (s.sendStopOrder w bd).survey = s.survey ∧
      (s.sendStopOrder w bd).links = s.links ∧ (s.sendStopOrder w bd).store = s.store ∧
      (s.sendStopOrder w bd).choices = s.choices ∧ (s.sendStopOrder w bd).pending = s.pending ∧
      (s.sendStopOrder w bd).gens.length = s.gens.length := by
  unfold State.sendStopOrder; dsimp only; split <;> simp

@[simp] theorem State.beginTransfer_frame :
    s.beginTransfer.now = s.now ∧ s.beginTransfer.mains = s.mains ∧ s.beginTransfer.coils = s.coils ∧
      s.beginTransfer.pans = s.pans ∧ s.beginTransfer.recalls = s.recalls ∧ s.beginTransfer.levels = s.levels ∧
      s.beginTransfer.boardA = s.boardA ∧ s.beginTransfer.boardB = s.boardB ∧ s.beginTransfer.gens = s.gens ∧
      s.beginTransfer.alloc = s.alloc ∧ s.beginTransfer.ctl = s.ctl ∧ s.beginTransfer.resetting = s.resetting ∧
      s.beginTransfer.softReset = s.softReset ∧ s.beginTransfer.survey = s.survey ∧
      s.beginTransfer.links = s.links ∧ s.beginTransfer.store = s.store ∧ s.beginTransfer.choices = s.choices ∧
      s.beginTransfer.pending = s.pending := by
  unfold State.beginTransfer; simp

@[simp] theorem State.tryOperation_frame :
    s.tryOperation.now = s.now ∧ s.tryOperation.mains = s.mains ∧ s.tryOperation.coils = s.coils ∧
      s.tryOperation.pans = s.pans ∧ s.tryOperation.recalls = s.recalls ∧ s.tryOperation.levels = s.levels ∧
      s.tryOperation.boardA = s.boardA ∧ s.tryOperation.boardB = s.boardB ∧ s.tryOperation.alloc = s.alloc ∧
      s.tryOperation.ctl = s.ctl ∧ s.tryOperation.resetting = s.resetting ∧
      s.tryOperation.softReset = s.softReset ∧ s.tryOperation.survey = s.survey ∧ s.tryOperation.links = s.links ∧
      s.tryOperation.store = s.store ∧ s.tryOperation.choices = s.choices ∧ s.tryOperation.pending = s.pending ∧
      s.tryOperation.gens.length = s.gens.length := by
  unfold State.tryOperation; dsimp only; (repeat' split) <;> simp

@[simp] theorem State.openAndRoute_frame :
    s.openAndRoute.now = s.now ∧ s.openAndRoute.mains = s.mains ∧ s.openAndRoute.recalls = s.recalls ∧
      s.openAndRoute.levels = s.levels ∧ s.openAndRoute.boardA = s.boardA ∧ s.openAndRoute.boardB = s.boardB ∧
      s.openAndRoute.alloc = s.alloc ∧ s.openAndRoute.ctl = s.ctl ∧ s.openAndRoute.resetting = s.resetting ∧
      s.openAndRoute.softReset = s.softReset ∧ s.openAndRoute.survey = s.survey ∧ s.openAndRoute.links = s.links ∧
      s.openAndRoute.store = s.store ∧ s.openAndRoute.choices = s.choices ∧ s.openAndRoute.pending = s.pending ∧
      s.openAndRoute.coils.length = s.coils.length ∧ s.openAndRoute.gens.length = s.gens.length := by
  unfold State.openAndRoute; simp

@[simp] theorem State.reportStopped_frame (l : List Nat) :
    (s.reportStopped l).now = s.now ∧ (s.reportStopped l).mains = s.mains ∧ (s.reportStopped l).coils = s.coils ∧
      (s.reportStopped l).pans = s.pans ∧ (s.reportStopped l).recalls = s.recalls ∧
      (s.reportStopped l).levels = s.levels ∧ (s.reportStopped l).boardA = s.boardA ∧
      (s.reportStopped l).boardB = s.boardB ∧ (s.reportStopped l).gens = s.gens ∧
      (s.reportStopped l).alloc = s.alloc ∧ (s.reportStopped l).ctl = s.ctl ∧
      (s.reportStopped l).resetting = s.resetting ∧ (s.reportStopped l).softReset = s.softReset ∧
      (s.reportStopped l).survey = s.survey ∧ (s.reportStopped l).links = s.links ∧
      (s.reportStopped l).store = s.store ∧ (s.reportStopped l).choices = s.choices ∧
      (s.reportStopped l).pending = s.pending := by
  unfold State.reportStopped; dsimp only; (repeat' split) <;> simp

@[simp] theorem State.tryHaltShift_frame :
    s.tryHaltShift.now = s.now ∧ s.tryHaltShift.mains = s.mains ∧ s.tryHaltShift.coils = s.coils ∧
      s.tryHaltShift.pans = s.pans ∧ s.tryHaltShift.recalls = s.recalls ∧ s.tryHaltShift.levels = s.levels ∧
      s.tryHaltShift.boardA = s.boardA ∧ s.tryHaltShift.boardB = s.boardB ∧ s.tryHaltShift.gens = s.gens ∧
      s.tryHaltShift.alloc = s.alloc ∧ s.tryHaltShift.ctl = s.ctl ∧ s.tryHaltShift.resetting = s.resetting ∧
      s.tryHaltShift.softReset = s.softReset ∧ s.tryHaltShift.survey = s.survey ∧ s.tryHaltShift.links = s.links ∧
      s.tryHaltShift.store = s.store ∧ s.tryHaltShift.choices = s.choices ∧
      s.tryHaltShift.pending = s.pending := by
  unfold State.tryHaltShift; split <;> simp

@[simp] theorem State.routeHalt_frame :
    s.routeHalt.now = s.now ∧ s.routeHalt.mains = s.mains ∧ s.routeHalt.recalls = s.recalls ∧
      s.routeHalt.levels = s.levels ∧ s.routeHalt.boardA = s.boardA ∧ s.routeHalt.boardB = s.boardB ∧
      s.routeHalt.alloc = s.alloc ∧ s.routeHalt.ctl = s.ctl ∧ s.routeHalt.resetting = s.resetting ∧
      s.routeHalt.softReset = s.softReset ∧ s.routeHalt.survey = s.survey ∧ s.routeHalt.links = s.links ∧
      s.routeHalt.store = s.store ∧ s.routeHalt.choices = s.choices ∧ s.routeHalt.pending = s.pending ∧
      s.routeHalt.coils.length = s.coils.length ∧ s.routeHalt.gens.length = s.gens.length := by
  unfold State.routeHalt; split <;> simp

@[simp] theorem State.latch_frame (im : List (Option Nat)) :
    (s.latch im).now = s.now ∧ (s.latch im).mains = s.mains ∧ (s.latch im).pans = s.pans ∧
      (s.latch im).recalls = s.recalls ∧ (s.latch im).levels = s.levels ∧ (s.latch im).route = s.route ∧
      (s.latch im).boardA = s.boardA ∧ (s.latch im).boardB = s.boardB ∧ (s.latch im).alloc = s.alloc ∧
      (s.latch im).ctl = s.ctl ∧ (s.latch im).resetting = s.resetting ∧ (s.latch im).softReset = s.softReset ∧
      (s.latch im).survey = s.survey ∧ (s.latch im).links = s.links ∧ (s.latch im).store = s.store ∧
      (s.latch im).choices = s.choices ∧ (s.latch im).pending = s.pending ∧
      (s.latch im).coils.length = s.coils.length ∧ (s.latch im).gens.length = s.gens.length := by
  unfold State.latch; simp

@[simp] theorem State.routeChanged_frame :
    s.routeChanged.now = s.now ∧ s.routeChanged.mains = s.mains ∧ s.routeChanged.coils = s.coils ∧
      s.routeChanged.pans = s.pans ∧ s.routeChanged.recalls = s.recalls ∧ s.routeChanged.levels = s.levels ∧
      s.routeChanged.route = s.route ∧ s.routeChanged.boardA = s.boardA ∧ s.routeChanged.boardB = s.boardB ∧
      s.routeChanged.alloc = s.alloc ∧ s.routeChanged.ctl = s.ctl ∧ s.routeChanged.resetting = s.resetting ∧
      s.routeChanged.softReset = s.softReset ∧ s.routeChanged.survey = s.survey ∧ s.routeChanged.links = s.links ∧
      s.routeChanged.store = s.store ∧ s.routeChanged.out = s.out ∧ s.routeChanged.choices = s.choices ∧
      s.routeChanged.pending = s.pending ∧ s.routeChanged.gens.length = s.gens.length := by
  unfold State.routeChanged; simp

@[simp] theorem State.beginSettle_frame :
    s.beginSettle.now = s.now ∧ s.beginSettle.mains = s.mains ∧ s.beginSettle.coils = s.coils ∧
      s.beginSettle.pans = s.pans ∧ s.beginSettle.recalls = s.recalls ∧ s.beginSettle.levels = s.levels ∧
      s.beginSettle.boardA = s.boardA ∧ s.beginSettle.boardB = s.boardB ∧ s.beginSettle.gens = s.gens ∧
      s.beginSettle.alloc = s.alloc ∧ s.beginSettle.ctl = s.ctl ∧ s.beginSettle.resetting = s.resetting ∧
      s.beginSettle.softReset = s.softReset ∧ s.beginSettle.survey = s.survey ∧ s.beginSettle.links = s.links ∧
      s.beginSettle.store = s.store ∧ s.beginSettle.out = s.out ∧ s.beginSettle.choices = s.choices ∧
      s.beginSettle.pending = s.pending := by
  unfold State.beginSettle; simp

@[simp] theorem State.settleExpired_frame :
    s.settleExpired.now = s.now ∧ s.settleExpired.mains = s.mains ∧ s.settleExpired.coils = s.coils ∧
      s.settleExpired.pans = s.pans ∧ s.settleExpired.recalls = s.recalls ∧ s.settleExpired.levels = s.levels ∧
      s.settleExpired.boardA = s.boardA ∧ s.settleExpired.boardB = s.boardB ∧ s.settleExpired.alloc = s.alloc ∧
      s.settleExpired.ctl = s.ctl ∧ s.settleExpired.resetting = s.resetting ∧
      s.settleExpired.softReset = s.softReset ∧ s.settleExpired.survey = s.survey ∧
      s.settleExpired.links = s.links ∧ s.settleExpired.store = s.store ∧ s.settleExpired.choices = s.choices ∧
      s.settleExpired.pending = s.pending ∧ s.settleExpired.gens.length = s.gens.length := by
  unfold State.settleExpired; simp

@[simp] theorem State.setMode_frame (m : Mode) :
    (s.setMode m).now = s.now ∧ (s.setMode m).mains = s.mains ∧ (s.setMode m).coils = s.coils ∧
      (s.setMode m).pans = s.pans ∧ (s.setMode m).recalls = s.recalls ∧ (s.setMode m).levels = s.levels ∧
      (s.setMode m).route = s.route ∧ (s.setMode m).boardA = s.boardA ∧ (s.setMode m).boardB = s.boardB ∧
      (s.setMode m).gens = s.gens ∧ (s.setMode m).alloc = s.alloc ∧ (s.setMode m).resetting = s.resetting ∧
      (s.setMode m).softReset = s.softReset ∧ (s.setMode m).survey = s.survey ∧ (s.setMode m).store = s.store ∧
      (s.setMode m).out = s.out ∧ (s.setMode m).choices = s.choices ∧ (s.setMode m).pending = s.pending ∧
      (s.setMode m).ctl.startTimer = s.ctl.startTimer := by
  unfold State.setMode; simp

@[simp] theorem State.stopStartTimer_frame :
    s.stopStartTimer.now = s.now ∧ s.stopStartTimer.mains = s.mains ∧ s.stopStartTimer.coils = s.coils ∧
      s.stopStartTimer.pans = s.pans ∧ s.stopStartTimer.recalls = s.recalls ∧ s.stopStartTimer.levels = s.levels ∧
      s.stopStartTimer.route = s.route ∧ s.stopStartTimer.boardA = s.boardA ∧ s.stopStartTimer.boardB = s.boardB ∧
      s.stopStartTimer.gens = s.gens ∧ s.stopStartTimer.alloc = s.alloc ∧
      s.stopStartTimer.resetting = s.resetting ∧ s.stopStartTimer.softReset = s.softReset ∧
      s.stopStartTimer.survey = s.survey ∧ s.stopStartTimer.links = s.links ∧ s.stopStartTimer.store = s.store ∧
      s.stopStartTimer.out = s.out ∧ s.stopStartTimer.choices = s.choices ∧ s.stopStartTimer.pending = s.pending ∧
      s.stopStartTimer.ctl.mode = s.ctl.mode := by
  unfold State.stopStartTimer; simp

@[simp] theorem State.judgeStart_frame :
    s.judgeStart.now = s.now ∧ s.judgeStart.mains = s.mains ∧ s.judgeStart.coils = s.coils ∧
      s.judgeStart.pans = s.pans ∧ s.judgeStart.recalls = s.recalls ∧ s.judgeStart.levels = s.levels ∧
      s.judgeStart.route = s.route ∧ s.judgeStart.boardA = s.boardA ∧ s.judgeStart.boardB = s.boardB ∧
      s.judgeStart.gens = s.gens ∧ s.judgeStart.alloc = s.alloc ∧ s.judgeStart.resetting = s.resetting ∧
      s.judgeStart.softReset = s.softReset ∧ s.judgeStart.survey = s.survey ∧ s.judgeStart.store = s.store ∧
      s.judgeStart.out = s.out ∧ s.judgeStart.choices = s.choices ∧ s.judgeStart.pending = s.pending := by
  unfold State.judgeStart; split <;> simp

@[simp] theorem State.leaveLevels_frame :
    s.leaveLevels.now = s.now ∧ s.leaveLevels.mains = s.mains ∧ s.leaveLevels.coils = s.coils ∧
      s.leaveLevels.route = s.route ∧ s.leaveLevels.boardA = s.boardA ∧ s.leaveLevels.boardB = s.boardB ∧
      s.leaveLevels.gens = s.gens ∧ s.leaveLevels.alloc = s.alloc ∧ s.leaveLevels.ctl = s.ctl ∧
      s.leaveLevels.resetting = s.resetting ∧ s.leaveLevels.softReset = s.softReset ∧
      s.leaveLevels.survey = s.survey ∧ s.leaveLevels.links = s.links ∧ s.leaveLevels.store = s.store ∧
      s.leaveLevels.out = s.out ∧ s.leaveLevels.choices = s.choices ∧ s.leaveLevels.pending = s.pending ∧
      s.leaveLevels.levels.demand = s.levels.demand := by
  unfold State.leaveLevels; simp

@[simp] theorem State.leaveBoard_frame (bd : Board) :
    (s.leaveBoard bd).now = s.now ∧ (s.leaveBoard bd).mains = s.mains ∧ (s.leaveBoard bd).coils = s.coils ∧
      (s.leaveBoard bd).pans = s.pans ∧ (s.leaveBoard bd).recalls = s.recalls ∧
      (s.leaveBoard bd).levels = s.levels ∧ (s.leaveBoard bd).route = s.route ∧ (s.leaveBoard bd).alloc = s.alloc ∧
      (s.leaveBoard bd).ctl = s.ctl ∧ (s.leaveBoard bd).resetting = s.resetting ∧
      (s.leaveBoard bd).softReset = s.softReset ∧ (s.leaveBoard bd).survey = s.survey ∧
      (s.leaveBoard bd).links = s.links ∧ (s.leaveBoard bd).store = s.store ∧ (s.leaveBoard bd).out = s.out ∧
      (s.leaveBoard bd).choices = s.choices ∧ (s.leaveBoard bd).pending = s.pending ∧
      (s.leaveBoard bd).gens.length = s.gens.length := by
  unfold State.leaveBoard; split <;> simp

@[simp] theorem State.leaveBoards_frame :
    s.leaveBoards.now = s.now ∧ s.leaveBoards.mains = s.mains ∧ s.leaveBoards.coils = s.coils ∧
      s.leaveBoards.pans = s.pans ∧ s.leaveBoards.recalls = s.recalls ∧ s.leaveBoards.levels = s.levels ∧
      s.leaveBoards.route = s.route ∧ s.leaveBoards.alloc = s.alloc ∧ s.leaveBoards.ctl = s.ctl ∧
      s.leaveBoards.resetting = s.resetting ∧ s.leaveBoards.softReset = s.softReset ∧
      s.leaveBoards.survey = s.survey ∧ s.leaveBoards.links = s.links ∧ s.leaveBoards.store = s.store ∧
      s.leaveBoards.out = s.out ∧ s.leaveBoards.choices = s.choices ∧ s.leaveBoards.pending = s.pending ∧
      s.leaveBoards.gens.length = s.gens.length := by
  unfold State.leaveBoards; simp

@[simp] theorem State.leaveActive_frame (m : Mode) :
    (s.leaveActive m).now = s.now ∧ (s.leaveActive m).mains = s.mains ∧ (s.leaveActive m).alloc = s.alloc ∧
      (s.leaveActive m).resetting = s.resetting ∧ (s.leaveActive m).softReset = s.softReset ∧
      (s.leaveActive m).survey = s.survey ∧ (s.leaveActive m).store = s.store ∧
      (s.leaveActive m).choices = s.choices ∧ (s.leaveActive m).pending = s.pending ∧
      (s.leaveActive m).ctl.startTimer = s.ctl.startTimer ∧ (s.leaveActive m).coils.length = s.coils.length ∧
      (s.leaveActive m).gens.length = s.gens.length ∧ (s.leaveActive m).levels.demand = s.levels.demand := by
  unfold State.leaveActive; split <;> simp

@[simp] theorem State.leaveForStandby_frame :
    s.leaveForStandby.now = s.now ∧ s.leaveForStandby.mains = s.mains ∧ s.leaveForStandby.alloc = s.alloc ∧
      s.leaveForStandby.resetting = s.resetting ∧ s.leaveForStandby.softReset = s.softReset ∧
      s.leaveForStandby.survey = s.survey ∧ s.leaveForStandby.store = s.store ∧
      s.leaveForStandby.choices = s.choices ∧ s.leaveForStandby.pending = s.pending ∧
      s.leaveForStandby.ctl.startTimer = s.ctl.startTimer ∧ s.leaveForStandby.coils.length = s.coils.length ∧
      s.leaveForStandby.gens.length = s.gens.length ∧ s.leaveForStandby.levels.demand = s.levels.demand := by
  unfold State.leaveForStandby; split <;> simp

@[simp] theorem State.abandonSurvey_frame :
    s.abandonSurvey.now = s.now ∧ s.abandonSurvey.mains = s.mains ∧ s.abandonSurvey.coils = s.coils ∧
      s.abandonSurvey.pans = s.pans ∧ s.abandonSurvey.recalls = s.recalls ∧ s.abandonSurvey.levels = s.levels ∧
      s.abandonSurvey.route = s.route ∧ s.abandonSurvey.boardA = s.boardA ∧ s.abandonSurvey.boardB = s.boardB ∧
      s.abandonSurvey.gens = s.gens ∧ s.abandonSurvey.alloc = s.alloc ∧ s.abandonSurvey.ctl = s.ctl ∧
      s.abandonSurvey.resetting = s.resetting ∧ s.abandonSurvey.softReset = s.softReset ∧
      s.abandonSurvey.links = s.links ∧ s.abandonSurvey.store = s.store ∧ s.abandonSurvey.out = s.out ∧
      s.abandonSurvey.choices = s.choices ∧ s.abandonSurvey.pending = s.pending := by
  unfold State.abandonSurvey; split <;> simp

@[simp] theorem State.modeToHalt_frame :
    s.modeToHalt.now = s.now ∧ s.modeToHalt.mains = s.mains ∧ s.modeToHalt.alloc = s.alloc ∧
      s.modeToHalt.resetting = s.resetting ∧ s.modeToHalt.softReset = s.softReset ∧ s.modeToHalt.store = s.store ∧
      s.modeToHalt.choices = s.choices ∧ s.modeToHalt.pending = s.pending ∧
      s.modeToHalt.coils.length = s.coils.length ∧ s.modeToHalt.gens.length = s.gens.length ∧
      s.modeToHalt.levels.demand = s.levels.demand := by
  unfold State.modeToHalt; split <;> simp

@[simp] theorem State.enterHalt_frame (c : HaltCause) :
    (s.enterHalt c).now = s.now ∧ (s.enterHalt c).mains = s.mains ∧ (s.enterHalt c).alloc = s.alloc ∧
      (s.enterHalt c).resetting = s.resetting ∧ (s.enterHalt c).softReset = s.softReset ∧
      (s.enterHalt c).store = s.store ∧ (s.enterHalt c).choices = s.choices ∧ (s.enterHalt c).pending = s.pending ∧
      (s.enterHalt c).coils.length = s.coils.length ∧ (s.enterHalt c).gens.length = s.gens.length ∧
      (s.enterHalt c).levels.demand = s.levels.demand := by
  unfold State.enterHalt; split <;> simp

@[simp] theorem State.transferComplete_frame (w : ChainWord) :
    (s.transferComplete w).now = s.now ∧ (s.transferComplete w).mains = s.mains ∧
      (s.transferComplete w).alloc = s.alloc ∧ (s.transferComplete w).resetting = s.resetting ∧
      (s.transferComplete w).softReset = s.softReset ∧ (s.transferComplete w).store = s.store ∧
      (s.transferComplete w).choices = s.choices ∧ (s.transferComplete w).pending = s.pending ∧
      (s.transferComplete w).coils.length = s.coils.length ∧ (s.transferComplete w).gens.length = s.gens.length ∧
      (s.transferComplete w).levels.demand = s.levels.demand := by
  unfold State.transferComplete; dsimp only; split <;> simp

@[simp] theorem State.haltShiftComplete_frame :
    s.haltShiftComplete.now = s.now ∧ s.haltShiftComplete.mains = s.mains ∧ s.haltShiftComplete.pans = s.pans ∧
      s.haltShiftComplete.recalls = s.recalls ∧ s.haltShiftComplete.levels = s.levels ∧
      s.haltShiftComplete.boardA = s.boardA ∧ s.haltShiftComplete.boardB = s.boardB ∧
      s.haltShiftComplete.alloc = s.alloc ∧ s.haltShiftComplete.ctl = s.ctl ∧
      s.haltShiftComplete.resetting = s.resetting ∧ s.haltShiftComplete.softReset = s.softReset ∧
      s.haltShiftComplete.survey = s.survey ∧ s.haltShiftComplete.links = s.links ∧
      s.haltShiftComplete.store = s.store ∧ s.haltShiftComplete.choices = s.choices ∧
      s.haltShiftComplete.pending = s.pending ∧ s.haltShiftComplete.coils.length = s.coils.length ∧
      s.haltShiftComplete.gens.length = s.gens.length := by
  unfold State.haltShiftComplete; simp

@[simp] theorem State.intake_frame (r : Nat → Option Reading) :
    (s.intake r).now = s.now ∧ (s.intake r).mains = s.mains ∧ (s.intake r).pans = s.pans ∧
      (s.intake r).recalls = s.recalls ∧ (s.intake r).levels = s.levels ∧ (s.intake r).route = s.route ∧
      (s.intake r).boardA = s.boardA ∧ (s.intake r).boardB = s.boardB ∧ (s.intake r).gens = s.gens ∧
      (s.intake r).alloc = s.alloc ∧ (s.intake r).ctl = s.ctl ∧ (s.intake r).resetting = s.resetting ∧
      (s.intake r).softReset = s.softReset ∧ (s.intake r).store = s.store ∧ (s.intake r).out = s.out ∧
      (s.intake r).choices = s.choices ∧ (s.intake r).pending = s.pending ∧
      (s.intake r).coils.length = s.coils.length := by
  unfold State.intake; simp

@[simp] theorem State.showroomIntake_frame :
    s.showroomIntake.now = s.now ∧ s.showroomIntake.mains = s.mains ∧ s.showroomIntake.pans = s.pans ∧
      s.showroomIntake.recalls = s.recalls ∧ s.showroomIntake.levels = s.levels ∧
      s.showroomIntake.route = s.route ∧ s.showroomIntake.boardA = s.boardA ∧ s.showroomIntake.boardB = s.boardB ∧
      s.showroomIntake.gens = s.gens ∧ s.showroomIntake.alloc = s.alloc ∧ s.showroomIntake.ctl = s.ctl ∧
      s.showroomIntake.resetting = s.resetting ∧ s.showroomIntake.softReset = s.softReset ∧
      s.showroomIntake.store = s.store ∧ s.showroomIntake.out = s.out ∧ s.showroomIntake.choices = s.choices ∧
      s.showroomIntake.pending = s.pending ∧ s.showroomIntake.coils.length = s.coils.length := by
  unfold State.showroomIntake; simp

@[simp] theorem State.countFrame_frame :
    s.countFrame.now = s.now ∧ s.countFrame.mains = s.mains ∧ s.countFrame.coils = s.coils ∧
      s.countFrame.pans = s.pans ∧ s.countFrame.recalls = s.recalls ∧ s.countFrame.levels = s.levels ∧
      s.countFrame.route = s.route ∧ s.countFrame.boardA = s.boardA ∧ s.countFrame.boardB = s.boardB ∧
      s.countFrame.gens = s.gens ∧ s.countFrame.alloc = s.alloc ∧ s.countFrame.ctl = s.ctl ∧
      s.countFrame.resetting = s.resetting ∧ s.countFrame.softReset = s.softReset ∧ s.countFrame.links = s.links ∧
      s.countFrame.store = s.store ∧ s.countFrame.out = s.out ∧ s.countFrame.choices = s.choices ∧
      s.countFrame.pending = s.pending ∧ s.countFrame.survey.state = s.survey.state := by
  unfold State.countFrame; split <;> simp

@[simp] theorem State.completeSurvey_frame :
    s.completeSurvey.now = s.now ∧ s.completeSurvey.mains = s.mains ∧ s.completeSurvey.pans = s.pans ∧
      s.completeSurvey.recalls = s.recalls ∧ s.completeSurvey.levels = s.levels ∧
      s.completeSurvey.route = s.route ∧ s.completeSurvey.boardA = s.boardA ∧ s.completeSurvey.boardB = s.boardB ∧
      s.completeSurvey.gens = s.gens ∧ s.completeSurvey.alloc = s.alloc ∧
      s.completeSurvey.resetting = s.resetting ∧ s.completeSurvey.softReset = s.softReset ∧
      s.completeSurvey.store = s.store ∧ s.completeSurvey.out = s.out ∧ s.completeSurvey.choices = s.choices ∧
      s.completeSurvey.pending = s.pending ∧ s.completeSurvey.ctl.startTimer = s.ctl.startTimer ∧
      s.completeSurvey.coils.length = s.coils.length := by
  unfold State.completeSurvey; simp

@[simp] theorem State.closeRunning_frame :
    s.closeRunning.now = s.now ∧ s.closeRunning.mains = s.mains ∧ s.closeRunning.pans = s.pans ∧
      s.closeRunning.recalls = s.recalls ∧ s.closeRunning.levels = s.levels ∧ s.closeRunning.route = s.route ∧
      s.closeRunning.boardA = s.boardA ∧ s.closeRunning.boardB = s.boardB ∧ s.closeRunning.gens = s.gens ∧
      s.closeRunning.alloc = s.alloc ∧ s.closeRunning.resetting = s.resetting ∧
      s.closeRunning.softReset = s.softReset ∧ s.closeRunning.store = s.store ∧ s.closeRunning.out = s.out ∧
      s.closeRunning.choices = s.choices ∧ s.closeRunning.pending = s.pending ∧
      s.closeRunning.ctl.startTimer = s.ctl.startTimer ∧ s.closeRunning.coils.length = s.coils.length := by
  unfold State.closeRunning; dsimp only; split <;> simp

@[simp] theorem State.closeSuspended_frame :
    s.closeSuspended.now = s.now ∧ s.closeSuspended.mains = s.mains ∧ s.closeSuspended.coils = s.coils ∧
      s.closeSuspended.pans = s.pans ∧ s.closeSuspended.recalls = s.recalls ∧ s.closeSuspended.levels = s.levels ∧
      s.closeSuspended.route = s.route ∧ s.closeSuspended.boardA = s.boardA ∧ s.closeSuspended.boardB = s.boardB ∧
      s.closeSuspended.gens = s.gens ∧ s.closeSuspended.alloc = s.alloc ∧ s.closeSuspended.ctl = s.ctl ∧
      s.closeSuspended.resetting = s.resetting ∧ s.closeSuspended.softReset = s.softReset ∧
      s.closeSuspended.links = s.links ∧ s.closeSuspended.store = s.store ∧ s.closeSuspended.out = s.out ∧
      s.closeSuspended.choices = s.choices ∧ s.closeSuspended.pending = s.pending := by
  unfold State.closeSuspended; dsimp only; (repeat' split) <;> simp

@[simp] theorem State.surveyClose_frame :
    s.surveyClose.now = s.now ∧ s.surveyClose.mains = s.mains ∧ s.surveyClose.pans = s.pans ∧
      s.surveyClose.recalls = s.recalls ∧ s.surveyClose.levels = s.levels ∧ s.surveyClose.route = s.route ∧
      s.surveyClose.boardA = s.boardA ∧ s.surveyClose.boardB = s.boardB ∧ s.surveyClose.gens = s.gens ∧
      s.surveyClose.alloc = s.alloc ∧ s.surveyClose.resetting = s.resetting ∧
      s.surveyClose.softReset = s.softReset ∧ s.surveyClose.store = s.store ∧ s.surveyClose.out = s.out ∧
      s.surveyClose.choices = s.choices ∧ s.surveyClose.pending = s.pending ∧
      s.surveyClose.ctl.startTimer = s.ctl.startTimer ∧ s.surveyClose.coils.length = s.coils.length := by
  unfold State.surveyClose; split <;> simp

@[simp] theorem State.abortSurvey_frame (o : SurveyOutcome) :
    (s.abortSurvey o).now = s.now ∧ (s.abortSurvey o).mains = s.mains ∧ (s.abortSurvey o).coils = s.coils ∧
      (s.abortSurvey o).pans = s.pans ∧ (s.abortSurvey o).recalls = s.recalls ∧
      (s.abortSurvey o).levels = s.levels ∧ (s.abortSurvey o).route = s.route ∧
      (s.abortSurvey o).boardA = s.boardA ∧ (s.abortSurvey o).boardB = s.boardB ∧ (s.abortSurvey o).gens = s.gens ∧
      (s.abortSurvey o).alloc = s.alloc ∧ (s.abortSurvey o).resetting = s.resetting ∧
      (s.abortSurvey o).softReset = s.softReset ∧ (s.abortSurvey o).store = s.store ∧
      (s.abortSurvey o).out = s.out ∧ (s.abortSurvey o).choices = s.choices ∧
      (s.abortSurvey o).pending = s.pending ∧ (s.abortSurvey o).ctl.startTimer = s.ctl.startTimer := by
  unfold State.abortSurvey; split <;> simp

@[simp] theorem State.boardLost_frame (bd : Board) :
    (s.boardLost bd).now = s.now ∧ (s.boardLost bd).pans = s.pans ∧ (s.boardLost bd).recalls = s.recalls ∧
      (s.boardLost bd).levels = s.levels ∧ (s.boardLost bd).route = s.route ∧ (s.boardLost bd).alloc = s.alloc ∧
      (s.boardLost bd).resetting = s.resetting ∧ (s.boardLost bd).softReset = s.softReset ∧
      (s.boardLost bd).store = s.store ∧ (s.boardLost bd).out = s.out ∧ (s.boardLost bd).choices = s.choices ∧
      (s.boardLost bd).pending = s.pending ∧ (s.boardLost bd).mains.frame = s.mains.frame ∧
      (s.boardLost bd).ctl.startTimer = s.ctl.startTimer ∧ (s.boardLost bd).coils.length = s.coils.length ∧
      (s.boardLost bd).gens.length = s.gens.length := by
  unfold State.boardLost; dsimp only; split <;> simp

@[simp] theorem State.boardReturns_frame (bd : Board) :
    (s.boardReturns bd).now = s.now ∧ (s.boardReturns bd).mains = s.mains ∧ (s.boardReturns bd).coils = s.coils ∧
      (s.boardReturns bd).pans = s.pans ∧ (s.boardReturns bd).recalls = s.recalls ∧
      (s.boardReturns bd).levels = s.levels ∧ (s.boardReturns bd).route = s.route ∧
      (s.boardReturns bd).alloc = s.alloc ∧ (s.boardReturns bd).resetting = s.resetting ∧
      (s.boardReturns bd).softReset = s.softReset ∧ (s.boardReturns bd).survey = s.survey ∧
      (s.boardReturns bd).store = s.store ∧ (s.boardReturns bd).out = s.out ∧
      (s.boardReturns bd).choices = s.choices ∧ (s.boardReturns bd).pending = s.pending ∧
      (s.boardReturns bd).gens.length = s.gens.length := by
  unfold State.boardReturns; simp

@[simp] theorem State.enqueue_frame (l : Link) (f : Frame) :
    (s.enqueue l f).now = s.now ∧ (s.enqueue l f).mains = s.mains ∧ (s.enqueue l f).coils = s.coils ∧
      (s.enqueue l f).pans = s.pans ∧ (s.enqueue l f).recalls = s.recalls ∧ (s.enqueue l f).levels = s.levels ∧
      (s.enqueue l f).route = s.route ∧ (s.enqueue l f).boardA = s.boardA ∧ (s.enqueue l f).boardB = s.boardB ∧
      (s.enqueue l f).gens = s.gens ∧ (s.enqueue l f).alloc = s.alloc ∧ (s.enqueue l f).ctl = s.ctl ∧
      (s.enqueue l f).resetting = s.resetting ∧ (s.enqueue l f).softReset = s.softReset ∧
      (s.enqueue l f).survey = s.survey ∧ (s.enqueue l f).store = s.store ∧ (s.enqueue l f).out = s.out ∧
      (s.enqueue l f).choices = s.choices ∧ (s.enqueue l f).pending = s.pending := by
  unfold State.enqueue; simp

@[simp] theorem State.boardArrival_frame (bd : Board) (f : Frame) :
    (s.boardArrival bd f).now = s.now ∧ (s.boardArrival bd f).mains = s.mains ∧
      (s.boardArrival bd f).coils = s.coils ∧ (s.boardArrival bd f).pans = s.pans ∧
      (s.boardArrival bd f).recalls = s.recalls ∧ (s.boardArrival bd f).levels = s.levels ∧
      (s.boardArrival bd f).route = s.route ∧ (s.boardArrival bd f).alloc = s.alloc ∧
      (s.boardArrival bd f).resetting = s.resetting ∧ (s.boardArrival bd f).softReset = s.softReset ∧
      (s.boardArrival bd f).survey = s.survey ∧ (s.boardArrival bd f).store = s.store ∧
      (s.boardArrival bd f).out = s.out ∧ (s.boardArrival bd f).choices = s.choices ∧
      (s.boardArrival bd f).pending = s.pending ∧ (s.boardArrival bd f).gens.length = s.gens.length := by
  unfold State.boardArrival; (repeat' split) <;> simp

@[simp] theorem State.boardExpiry_frame (bd : Board) :
    (s.boardExpiry bd).now = s.now ∧ (s.boardExpiry bd).pans = s.pans ∧ (s.boardExpiry bd).recalls = s.recalls ∧
      (s.boardExpiry bd).levels = s.levels ∧ (s.boardExpiry bd).route = s.route ∧
      (s.boardExpiry bd).alloc = s.alloc ∧ (s.boardExpiry bd).resetting = s.resetting ∧
      (s.boardExpiry bd).softReset = s.softReset ∧ (s.boardExpiry bd).store = s.store ∧
      (s.boardExpiry bd).out = s.out ∧ (s.boardExpiry bd).choices = s.choices ∧
      (s.boardExpiry bd).pending = s.pending ∧ (s.boardExpiry bd).mains.frame = s.mains.frame ∧
      (s.boardExpiry bd).coils.length = s.coils.length ∧ (s.boardExpiry bd).gens.length = s.gens.length := by
  unfold State.boardExpiry; split <;> simp

@[simp] theorem State.startExpired_frame :
    s.startExpired.now = s.now ∧ s.startExpired.pans = s.pans ∧ s.startExpired.recalls = s.recalls ∧
      s.startExpired.levels = s.levels ∧ s.startExpired.route = s.route ∧ s.startExpired.alloc = s.alloc ∧
      s.startExpired.resetting = s.resetting ∧ s.startExpired.softReset = s.softReset ∧
      s.startExpired.store = s.store ∧ s.startExpired.out = s.out ∧ s.startExpired.choices = s.choices ∧
      s.startExpired.pending = s.pending ∧ s.startExpired.mains.frame = s.mains.frame ∧
      s.startExpired.coils.length = s.coils.length ∧ s.startExpired.gens.length = s.gens.length := by
  unfold State.startExpired; dsimp only; (repeat' split) <;> simp

@[simp] theorem State.stopConfirmed_frame (bd : Board) (l : List Nat) :
    (s.stopConfirmed bd l).now = s.now ∧ (s.stopConfirmed bd l).mains = s.mains ∧
      (s.stopConfirmed bd l).coils = s.coils ∧ (s.stopConfirmed bd l).pans = s.pans ∧
      (s.stopConfirmed bd l).recalls = s.recalls ∧ (s.stopConfirmed bd l).levels = s.levels ∧
      (s.stopConfirmed bd l).alloc = s.alloc ∧ (s.stopConfirmed bd l).ctl = s.ctl ∧
      (s.stopConfirmed bd l).resetting = s.resetting ∧ (s.stopConfirmed bd l).softReset = s.softReset ∧
      (s.stopConfirmed bd l).survey = s.survey ∧ (s.stopConfirmed bd l).links = s.links ∧
      (s.stopConfirmed bd l).store = s.store ∧ (s.stopConfirmed bd l).choices = s.choices ∧
      (s.stopConfirmed bd l).pending = s.pending ∧ (s.stopConfirmed bd l).gens.length = s.gens.length := by
  unfold State.stopConfirmed; dsimp only; split <;> simp

@[simp] theorem State.stopExpired_frame (g : Nat) :
    (s.stopExpired g).now = s.now ∧ (s.stopExpired g).mains = s.mains ∧ (s.stopExpired g).coils = s.coils ∧
      (s.stopExpired g).pans = s.pans ∧ (s.stopExpired g).recalls = s.recalls ∧
      (s.stopExpired g).levels = s.levels ∧ (s.stopExpired g).route = s.route ∧ (s.stopExpired g).alloc = s.alloc ∧
      (s.stopExpired g).ctl = s.ctl ∧ (s.stopExpired g).resetting = s.resetting ∧
      (s.stopExpired g).softReset = s.softReset ∧ (s.stopExpired g).survey = s.survey ∧
      (s.stopExpired g).links = s.links ∧ (s.stopExpired g).store = s.store ∧ (s.stopExpired g).out = s.out ∧
      (s.stopExpired g).choices = s.choices ∧ (s.stopExpired g).pending = s.pending ∧
      (s.stopExpired g).gens.length = s.gens.length := by
  unfold State.stopExpired; dsimp only; split <;> simp

@[simp] theorem State.lineSettled_frame (bd : Board) :
    (s.lineSettled bd).now = s.now ∧ (s.lineSettled bd).mains = s.mains ∧ (s.lineSettled bd).coils = s.coils ∧
      (s.lineSettled bd).pans = s.pans ∧ (s.lineSettled bd).recalls = s.recalls ∧
      (s.lineSettled bd).levels = s.levels ∧ (s.lineSettled bd).alloc = s.alloc ∧ (s.lineSettled bd).ctl = s.ctl ∧
      (s.lineSettled bd).resetting = s.resetting ∧ (s.lineSettled bd).softReset = s.softReset ∧
      (s.lineSettled bd).survey = s.survey ∧ (s.lineSettled bd).store = s.store ∧
      (s.lineSettled bd).choices = s.choices ∧ (s.lineSettled bd).pending = s.pending ∧
      (s.lineSettled bd).gens.length = s.gens.length := by
  unfold State.lineSettled; simp

@[simp] theorem State.takeGenFields_frame (bd : Board) (r : BoardReport) :
    (s.takeGenFields bd r).now = s.now ∧ (s.takeGenFields bd r).mains = s.mains ∧
      (s.takeGenFields bd r).coils = s.coils ∧ (s.takeGenFields bd r).pans = s.pans ∧
      (s.takeGenFields bd r).recalls = s.recalls ∧ (s.takeGenFields bd r).levels = s.levels ∧
      (s.takeGenFields bd r).route = s.route ∧ (s.takeGenFields bd r).boardA = s.boardA ∧
      (s.takeGenFields bd r).boardB = s.boardB ∧ (s.takeGenFields bd r).alloc = s.alloc ∧
      (s.takeGenFields bd r).ctl = s.ctl ∧ (s.takeGenFields bd r).resetting = s.resetting ∧
      (s.takeGenFields bd r).softReset = s.softReset ∧ (s.takeGenFields bd r).survey = s.survey ∧
      (s.takeGenFields bd r).store = s.store ∧ (s.takeGenFields bd r).out = s.out ∧
      (s.takeGenFields bd r).choices = s.choices ∧ (s.takeGenFields bd r).pending = s.pending ∧
      (s.takeGenFields bd r).gens.length = s.gens.length := by
  unfold State.takeGenFields; simp

@[simp] theorem State.takeReport_frame (bd : Board) (r : BoardReport) :
    (s.takeReport bd r).now = s.now ∧ (s.takeReport bd r).alloc = s.alloc ∧
      (s.takeReport bd r).resetting = s.resetting ∧ (s.takeReport bd r).softReset = s.softReset ∧
      (s.takeReport bd r).store = s.store ∧ (s.takeReport bd r).choices = s.choices ∧
      (s.takeReport bd r).pending = s.pending ∧ (s.takeReport bd r).mains.frame = s.mains.frame ∧
      (s.takeReport bd r).coils.length = s.coils.length ∧ (s.takeReport bd r).gens.length = s.gens.length ∧
      (s.takeReport bd r).levels.demand = s.levels.demand := by
  unfold State.takeReport; dsimp only; (repeat' split) <;> simp

@[simp] theorem State.reportFrame_frame (bd : Board) (f : Frame) :
    (s.reportFrame bd f).now = s.now ∧ (s.reportFrame bd f).alloc = s.alloc ∧
      (s.reportFrame bd f).resetting = s.resetting ∧ (s.reportFrame bd f).softReset = s.softReset ∧
      (s.reportFrame bd f).store = s.store ∧ (s.reportFrame bd f).choices = s.choices ∧
      (s.reportFrame bd f).pending = s.pending ∧ (s.reportFrame bd f).mains.frame = s.mains.frame ∧
      (s.reportFrame bd f).coils.length = s.coils.length ∧ (s.reportFrame bd f).gens.length = s.gens.length ∧
      (s.reportFrame bd f).levels.demand = s.levels.demand := by
  unfold State.reportFrame; (repeat' split) <;> simp

@[simp] theorem State.helloFrame_frame (bd : Board) (f : Frame) :
    (s.helloFrame bd f).now = s.now ∧ (s.helloFrame bd f).mains = s.mains ∧ (s.helloFrame bd f).coils = s.coils ∧
      (s.helloFrame bd f).pans = s.pans ∧ (s.helloFrame bd f).recalls = s.recalls ∧
      (s.helloFrame bd f).levels = s.levels ∧ (s.helloFrame bd f).alloc = s.alloc ∧
      (s.helloFrame bd f).ctl = s.ctl ∧ (s.helloFrame bd f).resetting = s.resetting ∧
      (s.helloFrame bd f).softReset = s.softReset ∧ (s.helloFrame bd f).survey = s.survey ∧
      (s.helloFrame bd f).links = s.links ∧ (s.helloFrame bd f).store = s.store ∧
      (s.helloFrame bd f).choices = s.choices ∧ (s.helloFrame bd f).pending = s.pending ∧
      (s.helloFrame bd f).gens.length = s.gens.length := by
  unfold State.helloFrame; split <;> simp

@[simp] theorem State.confirmFrame_frame (bd : Board) (f : Frame) :
    (s.confirmFrame bd f).now = s.now ∧ (s.confirmFrame bd f).mains = s.mains ∧
      (s.confirmFrame bd f).coils = s.coils ∧ (s.confirmFrame bd f).pans = s.pans ∧
      (s.confirmFrame bd f).recalls = s.recalls ∧ (s.confirmFrame bd f).levels = s.levels ∧
      (s.confirmFrame bd f).alloc = s.alloc ∧ (s.confirmFrame bd f).ctl = s.ctl ∧
      (s.confirmFrame bd f).resetting = s.resetting ∧ (s.confirmFrame bd f).softReset = s.softReset ∧
      (s.confirmFrame bd f).survey = s.survey ∧ (s.confirmFrame bd f).links = s.links ∧
      (s.confirmFrame bd f).store = s.store ∧ (s.confirmFrame bd f).choices = s.choices ∧
      (s.confirmFrame bd f).pending = s.pending ∧ (s.confirmFrame bd f).gens.length = s.gens.length := by
  unfold State.confirmFrame; split <;> simp

@[simp] theorem State.sendDriveOrder_frame (bd : Board) :
    (s.sendDriveOrder bd).now = s.now ∧ (s.sendDriveOrder bd).mains = s.mains ∧
      (s.sendDriveOrder bd).coils = s.coils ∧ (s.sendDriveOrder bd).pans = s.pans ∧
      (s.sendDriveOrder bd).recalls = s.recalls ∧ (s.sendDriveOrder bd).levels = s.levels ∧
      (s.sendDriveOrder bd).route = s.route ∧ (s.sendDriveOrder bd).boardA = s.boardA ∧
      (s.sendDriveOrder bd).boardB = s.boardB ∧ (s.sendDriveOrder bd).gens = s.gens ∧
      (s.sendDriveOrder bd).alloc = s.alloc ∧ (s.sendDriveOrder bd).ctl = s.ctl ∧
      (s.sendDriveOrder bd).resetting = s.resetting ∧ (s.sendDriveOrder bd).softReset = s.softReset ∧
      (s.sendDriveOrder bd).survey = s.survey ∧ (s.sendDriveOrder bd).links = s.links ∧
      (s.sendDriveOrder bd).store = s.store ∧ (s.sendDriveOrder bd).choices = s.choices ∧
      (s.sendDriveOrder bd).pending = s.pending := by
  unfold State.sendDriveOrder; split <;> simp

@[simp] theorem State.shareComputation_frame :
    s.shareComputation.now = s.now ∧ s.shareComputation.coils = s.coils ∧ s.shareComputation.recalls = s.recalls ∧
      s.shareComputation.levels = s.levels ∧ s.shareComputation.route = s.route ∧
      s.shareComputation.boardA = s.boardA ∧ s.shareComputation.boardB = s.boardB ∧
      s.shareComputation.ctl = s.ctl ∧ s.shareComputation.resetting = s.resetting ∧
      s.shareComputation.softReset = s.softReset ∧ s.shareComputation.survey = s.survey ∧
      s.shareComputation.store = s.store ∧ s.shareComputation.choices = s.choices ∧
      s.shareComputation.pending = s.pending ∧ s.shareComputation.mains.frame = s.mains.frame ∧
      s.shareComputation.mains.l1.sync = s.mains.l1.sync ∧ s.shareComputation.mains.l2.sync = s.mains.l2.sync ∧
      s.shareComputation.mains.l1.budget = s.mains.l1.budget ∧
      s.shareComputation.mains.l2.budget = s.mains.l2.budget ∧ s.shareComputation.gens.length = s.gens.length := by
  unfold State.shareComputation; simp

@[simp] theorem State.removePan_frame (n : Nat) :
    (s.removePan n).now = s.now ∧ (s.removePan n).mains = s.mains ∧ (s.removePan n).coils = s.coils ∧
      (s.removePan n).recalls = s.recalls ∧ (s.removePan n).route = s.route ∧ (s.removePan n).boardA = s.boardA ∧
      (s.removePan n).boardB = s.boardB ∧ (s.removePan n).gens = s.gens ∧ (s.removePan n).alloc = s.alloc ∧
      (s.removePan n).ctl = s.ctl ∧ (s.removePan n).resetting = s.resetting ∧
      (s.removePan n).softReset = s.softReset ∧ (s.removePan n).survey = s.survey ∧
      (s.removePan n).links = s.links ∧ (s.removePan n).store = s.store ∧ (s.removePan n).out = s.out ∧
      (s.removePan n).choices = s.choices ∧ (s.removePan n).pending = s.pending ∧
      (s.removePan n).levels.pause = s.levels.pause := by
  unfold State.removePan; simp

@[simp] theorem State.liftPan_frame (p : Pan) :
    (s.liftPan p).now = s.now ∧ (s.liftPan p).mains = s.mains ∧ (s.liftPan p).coils = s.coils ∧
      (s.liftPan p).route = s.route ∧ (s.liftPan p).boardA = s.boardA ∧ (s.liftPan p).boardB = s.boardB ∧
      (s.liftPan p).gens = s.gens ∧ (s.liftPan p).alloc = s.alloc ∧ (s.liftPan p).ctl = s.ctl ∧
      (s.liftPan p).resetting = s.resetting ∧ (s.liftPan p).softReset = s.softReset ∧
      (s.liftPan p).survey = s.survey ∧ (s.liftPan p).store = s.store ∧ (s.liftPan p).out = s.out ∧
      (s.liftPan p).choices = s.choices ∧ (s.liftPan p).pending = s.pending ∧
      (s.liftPan p).levels.pause = s.levels.pause := by
  unfold State.liftPan; split <;> simp

@[simp] theorem State.notFound_frame (p : Pan) :
    (s.notFound p).now = s.now ∧ (s.notFound p).mains = s.mains ∧ (s.notFound p).coils = s.coils ∧
      (s.notFound p).route = s.route ∧ (s.notFound p).boardA = s.boardA ∧ (s.notFound p).boardB = s.boardB ∧
      (s.notFound p).gens = s.gens ∧ (s.notFound p).alloc = s.alloc ∧ (s.notFound p).ctl = s.ctl ∧
      (s.notFound p).resetting = s.resetting ∧ (s.notFound p).softReset = s.softReset ∧
      (s.notFound p).survey = s.survey ∧ (s.notFound p).store = s.store ∧ (s.notFound p).out = s.out ∧
      (s.notFound p).choices = s.choices ∧ (s.notFound p).pending = s.pending ∧
      (s.notFound p).levels.pause = s.levels.pause := by
  unfold State.notFound; (repeat' split) <;> simp

@[simp] theorem State.passPan_frame (attr : List (Option Nat)) (p : Pan) :
    (State.passPan attr s p).now = s.now ∧ (State.passPan attr s p).mains = s.mains ∧
      (State.passPan attr s p).coils = s.coils ∧ (State.passPan attr s p).route = s.route ∧
      (State.passPan attr s p).boardA = s.boardA ∧ (State.passPan attr s p).boardB = s.boardB ∧
      (State.passPan attr s p).gens = s.gens ∧ (State.passPan attr s p).alloc = s.alloc ∧
      (State.passPan attr s p).ctl = s.ctl ∧ (State.passPan attr s p).resetting = s.resetting ∧
      (State.passPan attr s p).softReset = s.softReset ∧ (State.passPan attr s p).survey = s.survey ∧
      (State.passPan attr s p).store = s.store ∧ (State.passPan attr s p).out = s.out ∧
      (State.passPan attr s p).choices = s.choices ∧ (State.passPan attr s p).pending = s.pending ∧
      (State.passPan attr s p).levels.pause = s.levels.pause := by
  unfold State.passPan; dsimp only; split <;> simp

@[simp] theorem State.recallCheck_frame (n : Nat) :
    (State.recallCheck s n).now = s.now ∧ (State.recallCheck s n).mains = s.mains ∧
      (State.recallCheck s n).coils = s.coils ∧ (State.recallCheck s n).route = s.route ∧
      (State.recallCheck s n).boardA = s.boardA ∧ (State.recallCheck s n).boardB = s.boardB ∧
      (State.recallCheck s n).gens = s.gens ∧ (State.recallCheck s n).alloc = s.alloc ∧
      (State.recallCheck s n).ctl = s.ctl ∧ (State.recallCheck s n).resetting = s.resetting ∧
      (State.recallCheck s n).softReset = s.softReset ∧ (State.recallCheck s n).survey = s.survey ∧
      (State.recallCheck s n).store = s.store ∧ (State.recallCheck s n).out = s.out ∧
      (State.recallCheck s n).choices = s.choices ∧ (State.recallCheck s n).pending = s.pending ∧
      (State.recallCheck s n).levels.pause = s.levels.pause := by
  unfold State.recallCheck; (repeat' split) <;> simp

@[simp] theorem State.claim_frame (l : List Nat) :
    (State.claim s l).now = s.now ∧ (State.claim s l).mains = s.mains ∧ (State.claim s l).coils = s.coils ∧
      (State.claim s l).recalls = s.recalls ∧ (State.claim s l).route = s.route ∧
      (State.claim s l).boardA = s.boardA ∧ (State.claim s l).boardB = s.boardB ∧ (State.claim s l).gens = s.gens ∧
      (State.claim s l).alloc = s.alloc ∧ (State.claim s l).ctl = s.ctl ∧
      (State.claim s l).resetting = s.resetting ∧ (State.claim s l).softReset = s.softReset ∧
      (State.claim s l).survey = s.survey ∧ (State.claim s l).links = s.links ∧ (State.claim s l).store = s.store ∧
      (State.claim s l).out = s.out ∧ (State.claim s l).choices = s.choices ∧
      (State.claim s l).pending = s.pending ∧ (State.claim s l).levels.pause = s.levels.pause := by
  unfold State.claim; split <;> simp

@[simp] theorem State.rewriteCoilPans_frame :
    s.rewriteCoilPans.now = s.now ∧ s.rewriteCoilPans.mains = s.mains ∧ s.rewriteCoilPans.pans = s.pans ∧
      s.rewriteCoilPans.recalls = s.recalls ∧ s.rewriteCoilPans.levels = s.levels ∧
      s.rewriteCoilPans.route = s.route ∧ s.rewriteCoilPans.boardA = s.boardA ∧
      s.rewriteCoilPans.boardB = s.boardB ∧ s.rewriteCoilPans.gens = s.gens ∧ s.rewriteCoilPans.alloc = s.alloc ∧
      s.rewriteCoilPans.ctl = s.ctl ∧ s.rewriteCoilPans.resetting = s.resetting ∧
      s.rewriteCoilPans.softReset = s.softReset ∧ s.rewriteCoilPans.survey = s.survey ∧
      s.rewriteCoilPans.links = s.links ∧ s.rewriteCoilPans.store = s.store ∧ s.rewriteCoilPans.out = s.out ∧
      s.rewriteCoilPans.choices = s.choices ∧ s.rewriteCoilPans.pending = s.pending ∧
      s.rewriteCoilPans.coils.length = s.coils.length := by
  unfold State.rewriteCoilPans; simp

@[simp] theorem State.passPans_frame (attr : List (Option Nat)) (l : List Pan) :
    (l.foldl (State.passPan attr) s).now = s.now ∧ (l.foldl (State.passPan attr) s).mains = s.mains ∧
      (l.foldl (State.passPan attr) s).coils = s.coils ∧ (l.foldl (State.passPan attr) s).route = s.route ∧
      (l.foldl (State.passPan attr) s).boardA = s.boardA ∧ (l.foldl (State.passPan attr) s).boardB = s.boardB ∧
      (l.foldl (State.passPan attr) s).gens = s.gens ∧ (l.foldl (State.passPan attr) s).alloc = s.alloc ∧
      (l.foldl (State.passPan attr) s).ctl = s.ctl ∧ (l.foldl (State.passPan attr) s).resetting = s.resetting ∧
      (l.foldl (State.passPan attr) s).softReset = s.softReset ∧
      (l.foldl (State.passPan attr) s).survey = s.survey ∧ (l.foldl (State.passPan attr) s).store = s.store ∧
      (l.foldl (State.passPan attr) s).out = s.out ∧ (l.foldl (State.passPan attr) s).choices = s.choices ∧
      (l.foldl (State.passPan attr) s).pending = s.pending ∧
      (l.foldl (State.passPan attr) s).levels.pause = s.levels.pause := by
  induction l generalizing s with
  | nil => simp
  | cons x rest ih => simpa using ih (State.passPan attr s x)

@[simp] theorem State.recallChecks_frame (l : List Nat) :
    (l.foldl State.recallCheck s).now = s.now ∧ (l.foldl State.recallCheck s).mains = s.mains ∧
      (l.foldl State.recallCheck s).coils = s.coils ∧ (l.foldl State.recallCheck s).route = s.route ∧
      (l.foldl State.recallCheck s).boardA = s.boardA ∧ (l.foldl State.recallCheck s).boardB = s.boardB ∧
      (l.foldl State.recallCheck s).gens = s.gens ∧ (l.foldl State.recallCheck s).alloc = s.alloc ∧
      (l.foldl State.recallCheck s).ctl = s.ctl ∧ (l.foldl State.recallCheck s).resetting = s.resetting ∧
      (l.foldl State.recallCheck s).softReset = s.softReset ∧ (l.foldl State.recallCheck s).survey = s.survey ∧
      (l.foldl State.recallCheck s).store = s.store ∧ (l.foldl State.recallCheck s).out = s.out ∧
      (l.foldl State.recallCheck s).choices = s.choices ∧ (l.foldl State.recallCheck s).pending = s.pending ∧
      (l.foldl State.recallCheck s).levels.pause = s.levels.pause := by
  induction l generalizing s with
  | nil => simp
  | cons x rest ih => simpa using ih (State.recallCheck s x)

@[simp] theorem State.claims_frame (l : List (List Nat)) :
    (l.foldl State.claim s).now = s.now ∧ (l.foldl State.claim s).mains = s.mains ∧
      (l.foldl State.claim s).coils = s.coils ∧ (l.foldl State.claim s).recalls = s.recalls ∧
      (l.foldl State.claim s).route = s.route ∧ (l.foldl State.claim s).boardA = s.boardA ∧
      (l.foldl State.claim s).boardB = s.boardB ∧ (l.foldl State.claim s).gens = s.gens ∧
      (l.foldl State.claim s).alloc = s.alloc ∧ (l.foldl State.claim s).ctl = s.ctl ∧
      (l.foldl State.claim s).resetting = s.resetting ∧ (l.foldl State.claim s).softReset = s.softReset ∧
      (l.foldl State.claim s).survey = s.survey ∧ (l.foldl State.claim s).links = s.links ∧
      (l.foldl State.claim s).store = s.store ∧ (l.foldl State.claim s).out = s.out ∧
      (l.foldl State.claim s).choices = s.choices ∧ (l.foldl State.claim s).pending = s.pending ∧
      (l.foldl State.claim s).levels.pause = s.levels.pause := by
  induction l generalizing s with
  | nil => simp
  | cons x rest ih => simpa using ih (State.claim s x)

@[simp] theorem State.trackingPass_frame :
    s.trackingPass.now = s.now ∧ s.trackingPass.mains = s.mains ∧ s.trackingPass.route = s.route ∧
      s.trackingPass.boardA = s.boardA ∧ s.trackingPass.boardB = s.boardB ∧ s.trackingPass.gens = s.gens ∧
      s.trackingPass.alloc = s.alloc ∧ s.trackingPass.ctl = s.ctl ∧ s.trackingPass.resetting = s.resetting ∧
      s.trackingPass.softReset = s.softReset ∧ s.trackingPass.survey = s.survey ∧ s.trackingPass.store = s.store ∧
      s.trackingPass.out = s.out ∧ s.trackingPass.choices = s.choices ∧ s.trackingPass.pending = s.pending ∧
      s.trackingPass.coils.length = s.coils.length ∧ s.trackingPass.levels.pause = s.levels.pause := by
  unfold State.trackingPass; simp

@[simp] theorem State.assignment_frame :
    s.assignment.now = s.now ∧ s.assignment.mains = s.mains ∧ s.assignment.recalls = s.recalls ∧
      s.assignment.levels = s.levels ∧ s.assignment.route = s.route ∧ s.assignment.boardA = s.boardA ∧
      s.assignment.boardB = s.boardB ∧ s.assignment.alloc = s.alloc ∧ s.assignment.ctl = s.ctl ∧
      s.assignment.resetting = s.resetting ∧ s.assignment.softReset = s.softReset ∧
      s.assignment.survey = s.survey ∧ s.assignment.store = s.store ∧ s.assignment.out = s.out ∧
      s.assignment.choices = s.choices ∧ s.assignment.pending = s.pending ∧
      s.assignment.coils.length = s.coils.length ∧ s.assignment.gens.length = s.gens.length := by
  unfold State.assignment; simp

@[simp] theorem State.routeTracking_frame :
    s.routeTracking.now = s.now ∧ s.routeTracking.mains = s.mains ∧ s.routeTracking.recalls = s.recalls ∧
      s.routeTracking.levels = s.levels ∧ s.routeTracking.boardA = s.boardA ∧ s.routeTracking.boardB = s.boardB ∧
      s.routeTracking.alloc = s.alloc ∧ s.routeTracking.ctl = s.ctl ∧ s.routeTracking.resetting = s.resetting ∧
      s.routeTracking.softReset = s.softReset ∧ s.routeTracking.survey = s.survey ∧
      s.routeTracking.store = s.store ∧ s.routeTracking.choices = s.choices ∧ s.routeTracking.pending = s.pending ∧
      s.routeTracking.coils.length = s.coils.length ∧ s.routeTracking.gens.length = s.gens.length := by
  unfold State.routeTracking; split <;> simp

@[simp] theorem State.trackingPoint_frame :
    s.trackingPoint.now = s.now ∧ s.trackingPoint.mains = s.mains ∧ s.trackingPoint.boardA = s.boardA ∧
      s.trackingPoint.boardB = s.boardB ∧ s.trackingPoint.alloc = s.alloc ∧ s.trackingPoint.ctl = s.ctl ∧
      s.trackingPoint.resetting = s.resetting ∧ s.trackingPoint.softReset = s.softReset ∧
      s.trackingPoint.survey = s.survey ∧ s.trackingPoint.store = s.store ∧ s.trackingPoint.choices = s.choices ∧
      s.trackingPoint.pending = s.pending ∧ s.trackingPoint.coils.length = s.coils.length ∧
      s.trackingPoint.gens.length = s.gens.length ∧ s.trackingPoint.levels.pause = s.levels.pause := by
  unfold State.trackingPoint; simp

@[simp] theorem State.startPhases_frame :
    s.startPhases.now = s.now ∧ s.startPhases.coils = s.coils ∧ s.startPhases.pans = s.pans ∧
      s.startPhases.recalls = s.recalls ∧ s.startPhases.levels = s.levels ∧ s.startPhases.route = s.route ∧
      s.startPhases.boardA = s.boardA ∧ s.startPhases.boardB = s.boardB ∧ s.startPhases.gens = s.gens ∧
      s.startPhases.alloc = s.alloc ∧ s.startPhases.ctl = s.ctl ∧ s.startPhases.resetting = s.resetting ∧
      s.startPhases.softReset = s.softReset ∧ s.startPhases.survey = s.survey ∧ s.startPhases.store = s.store ∧
      s.startPhases.out = s.out ∧ s.startPhases.choices = s.choices ∧ s.startPhases.pending = s.pending ∧
      s.startPhases.mains.frame = s.mains.frame := by
  unfold State.startPhases; simp

@[simp] theorem State.intakeAndClose_frame :
    s.intakeAndClose.now = s.now ∧ s.intakeAndClose.mains = s.mains ∧ s.intakeAndClose.pans = s.pans ∧
      s.intakeAndClose.recalls = s.recalls ∧ s.intakeAndClose.levels = s.levels ∧
      s.intakeAndClose.route = s.route ∧ s.intakeAndClose.boardA = s.boardA ∧ s.intakeAndClose.boardB = s.boardB ∧
      s.intakeAndClose.gens = s.gens ∧ s.intakeAndClose.alloc = s.alloc ∧
      s.intakeAndClose.resetting = s.resetting ∧ s.intakeAndClose.softReset = s.softReset ∧
      s.intakeAndClose.store = s.store ∧ s.intakeAndClose.choices = s.choices ∧
      s.intakeAndClose.out = s.out ∧ s.intakeAndClose.pending = s.pending ∧
      s.intakeAndClose.ctl.startTimer = s.ctl.startTimer ∧ s.intakeAndClose.coils.length = s.coils.length := by
  unfold State.intakeAndClose; (repeat' split) <;> simp

@[simp] theorem State.frameStart_frame :
    s.frameStart.now = s.now ∧ s.frameStart.recalls = s.recalls ∧ s.frameStart.levels = s.levels ∧
      s.frameStart.route = s.route ∧ s.frameStart.boardA = s.boardA ∧ s.frameStart.boardB = s.boardB ∧
      s.frameStart.resetting = s.resetting ∧ s.frameStart.softReset = s.softReset ∧ s.frameStart.store = s.store ∧
      s.frameStart.choices = s.choices ∧ s.frameStart.pending = s.pending ∧ s.frameStart.mains.frame = s.mains.frame ∧
      s.frameStart.ctl.startTimer = s.ctl.startTimer ∧ s.frameStart.coils.length = s.coils.length ∧
      s.frameStart.gens.length = s.gens.length := by
  unfold State.frameStart; simp

@[simp] theorem State.freeFrame_frame :
    s.freeFrame.now = s.now ∧ s.freeFrame.recalls = s.recalls ∧ s.freeFrame.levels = s.levels ∧
      s.freeFrame.route = s.route ∧ s.freeFrame.boardA = s.boardA ∧ s.freeFrame.boardB = s.boardB ∧
      s.freeFrame.resetting = s.resetting ∧ s.freeFrame.softReset = s.softReset ∧ s.freeFrame.store = s.store ∧
      s.freeFrame.choices = s.choices ∧ s.freeFrame.pending = s.pending ∧ s.freeFrame.ctl.startTimer = s.ctl.startTimer ∧
      s.freeFrame.coils.length = s.coils.length ∧ s.freeFrame.gens.length = s.gens.length := by
  unfold State.freeFrame; simp

@[simp] theorem State.syncedFrame_frame :
    s.syncedFrame.now = s.now ∧ s.syncedFrame.recalls = s.recalls ∧ s.syncedFrame.levels = s.levels ∧
      s.syncedFrame.route = s.route ∧ s.syncedFrame.boardA = s.boardA ∧ s.syncedFrame.boardB = s.boardB ∧
      s.syncedFrame.resetting = s.resetting ∧ s.syncedFrame.softReset = s.softReset ∧
      s.syncedFrame.store = s.store ∧ s.syncedFrame.choices = s.choices ∧ s.syncedFrame.pending = s.pending ∧
      s.syncedFrame.ctl.startTimer = s.ctl.startTimer ∧ s.syncedFrame.coils.length = s.coils.length ∧
      s.syncedFrame.gens.length = s.gens.length := by
  unfold State.syncedFrame; simp

@[simp] theorem State.frameEdge_frame :
    s.frameEdge.now = s.now ∧ s.frameEdge.boardA = s.boardA ∧ s.frameEdge.boardB = s.boardB ∧
      s.frameEdge.resetting = s.resetting ∧ s.frameEdge.softReset = s.softReset ∧ s.frameEdge.store = s.store ∧
      s.frameEdge.pending = s.pending ∧ s.frameEdge.ctl.startTimer = s.ctl.startTimer ∧
      s.frameEdge.coils.length = s.coils.length ∧ s.frameEdge.gens.length = s.gens.length ∧
      s.frameEdge.levels.pause = s.levels.pause := by
  unfold State.frameEdge; dsimp only; (repeat' split) <;> simp

@[simp] theorem State.l1Lost_frame :
    s.l1Lost.now = s.now ∧ s.l1Lost.resetting = s.resetting ∧ s.l1Lost.softReset = s.softReset ∧
      s.l1Lost.store = s.store ∧ s.l1Lost.pending = s.pending ∧ s.l1Lost.ctl.startTimer = s.ctl.startTimer ∧
      s.l1Lost.coils.length = s.coils.length ∧ s.l1Lost.gens.length = s.gens.length ∧
      s.l1Lost.levels.demand = s.levels.demand := by
  unfold State.l1Lost; (repeat' split) <;> simp

@[simp] theorem State.l1Changed_frame (x : Sync) :
    (s.l1Changed x).now = s.now ∧ (s.l1Changed x).resetting = s.resetting ∧
      (s.l1Changed x).softReset = s.softReset ∧ (s.l1Changed x).store = s.store ∧
      (s.l1Changed x).pending = s.pending ∧ (s.l1Changed x).coils.length = s.coils.length ∧
      (s.l1Changed x).gens.length = s.gens.length ∧ (s.l1Changed x).levels.demand = s.levels.demand := by
  unfold State.l1Changed; (repeat' split) <;> simp

@[simp] theorem State.edgeExpired_frame (ph : Phase) :
    (s.edgeExpired ph).now = s.now ∧ (s.edgeExpired ph).resetting = s.resetting ∧
      (s.edgeExpired ph).softReset = s.softReset ∧ (s.edgeExpired ph).store = s.store ∧
      (s.edgeExpired ph).pending = s.pending ∧ (s.edgeExpired ph).coils.length = s.coils.length ∧
      (s.edgeExpired ph).gens.length = s.gens.length ∧ (s.edgeExpired ph).levels.demand = s.levels.demand := by
  unfold State.edgeExpired; cases ph <;> simp

@[simp] theorem State.edgeTaken_frame (ph : Phase) :
    (s.edgeTaken ph).now = s.now ∧ (s.edgeTaken ph).resetting = s.resetting ∧
      (s.edgeTaken ph).softReset = s.softReset ∧ (s.edgeTaken ph).store = s.store ∧
      (s.edgeTaken ph).pending = s.pending ∧ (s.edgeTaken ph).coils.length = s.coils.length ∧
      (s.edgeTaken ph).gens.length = s.gens.length := by
  unfold State.edgeTaken; cases ph <;> simp; split <;> simp

@[simp] theorem State.freeExpired_frame :
    s.freeExpired.now = s.now ∧ s.freeExpired.recalls = s.recalls ∧ s.freeExpired.levels = s.levels ∧
      s.freeExpired.route = s.route ∧ s.freeExpired.boardA = s.boardA ∧ s.freeExpired.boardB = s.boardB ∧
      s.freeExpired.resetting = s.resetting ∧ s.freeExpired.softReset = s.softReset ∧
      s.freeExpired.store = s.store ∧ s.freeExpired.pending = s.pending ∧
      s.freeExpired.ctl.startTimer = s.ctl.startTimer ∧ s.freeExpired.coils.length = s.coils.length ∧
      s.freeExpired.gens.length = s.gens.length := by
  unfold State.freeExpired; split <;> simp

@[simp] theorem State.trackExpired_frame :
    s.trackExpired.now = s.now ∧ s.trackExpired.boardA = s.boardA ∧ s.trackExpired.boardB = s.boardB ∧
      s.trackExpired.alloc = s.alloc ∧ s.trackExpired.ctl = s.ctl ∧ s.trackExpired.resetting = s.resetting ∧
      s.trackExpired.softReset = s.softReset ∧ s.trackExpired.survey = s.survey ∧ s.trackExpired.store = s.store ∧
      s.trackExpired.choices = s.choices ∧ s.trackExpired.pending = s.pending ∧
      s.trackExpired.mains.l1.sync = s.mains.l1.sync ∧ s.trackExpired.mains.l2.sync = s.mains.l2.sync ∧
      s.trackExpired.mains.l1.budget = s.mains.l1.budget ∧ s.trackExpired.mains.l2.budget = s.mains.l2.budget ∧
      s.trackExpired.coils.length = s.coils.length ∧ s.trackExpired.gens.length = s.gens.length ∧
      s.trackExpired.levels.pause = s.levels.pause := by
  unfold State.trackExpired; simp

@[simp] theorem State.endAssembly_frame (l : Link) :
    (s.endAssembly l).now = s.now ∧ (s.endAssembly l).mains = s.mains ∧ (s.endAssembly l).coils = s.coils ∧
      (s.endAssembly l).pans = s.pans ∧ (s.endAssembly l).recalls = s.recalls ∧
      (s.endAssembly l).levels = s.levels ∧ (s.endAssembly l).route = s.route ∧
      (s.endAssembly l).boardA = s.boardA ∧ (s.endAssembly l).boardB = s.boardB ∧ (s.endAssembly l).gens = s.gens ∧
      (s.endAssembly l).alloc = s.alloc ∧ (s.endAssembly l).ctl = s.ctl ∧
      (s.endAssembly l).resetting = s.resetting ∧ (s.endAssembly l).softReset = s.softReset ∧
      (s.endAssembly l).survey = s.survey ∧ (s.endAssembly l).store = s.store ∧ (s.endAssembly l).out = s.out ∧
      (s.endAssembly l).choices = s.choices ∧ (s.endAssembly l).pending = s.pending := by
  unfold State.endAssembly; simp

@[simp] theorem State.partnerArrival_frame (p : Partner) (f : Frame) :
    (s.partnerArrival p f).now = s.now ∧ (s.partnerArrival p f).mains = s.mains ∧
      (s.partnerArrival p f).coils = s.coils ∧ (s.partnerArrival p f).pans = s.pans ∧
      (s.partnerArrival p f).recalls = s.recalls ∧ (s.partnerArrival p f).levels = s.levels ∧
      (s.partnerArrival p f).route = s.route ∧ (s.partnerArrival p f).boardA = s.boardA ∧
      (s.partnerArrival p f).boardB = s.boardB ∧ (s.partnerArrival p f).gens = s.gens ∧
      (s.partnerArrival p f).alloc = s.alloc ∧ (s.partnerArrival p f).ctl = s.ctl ∧
      (s.partnerArrival p f).resetting = s.resetting ∧ (s.partnerArrival p f).softReset = s.softReset ∧
      (s.partnerArrival p f).survey = s.survey ∧ (s.partnerArrival p f).store = s.store ∧
      (s.partnerArrival p f).out = s.out ∧ (s.partnerArrival p f).choices = s.choices ∧
      (s.partnerArrival p f).pending = s.pending := by
  unfold State.partnerArrival; split <;> simp

@[simp] theorem State.frameComplete_frame (l : Link) (f : Frame) :
    (s.frameComplete l f).now = s.now ∧ (s.frameComplete l f).mains = s.mains ∧
      (s.frameComplete l f).coils = s.coils ∧ (s.frameComplete l f).pans = s.pans ∧
      (s.frameComplete l f).recalls = s.recalls ∧ (s.frameComplete l f).levels = s.levels ∧
      (s.frameComplete l f).route = s.route ∧ (s.frameComplete l f).alloc = s.alloc ∧
      (s.frameComplete l f).resetting = s.resetting ∧ (s.frameComplete l f).softReset = s.softReset ∧
      (s.frameComplete l f).survey = s.survey ∧ (s.frameComplete l f).store = s.store ∧
      (s.frameComplete l f).out = s.out ∧ (s.frameComplete l f).choices = s.choices ∧
      (s.frameComplete l f).pending = s.pending ∧ (s.frameComplete l f).gens.length = s.gens.length := by
  unfold State.frameComplete; (repeat' split) <;> simp

@[simp] theorem State.assemble_frame (l : Link) (bs : List Byte) :
    (s.assemble l bs).now = s.now ∧ (s.assemble l bs).mains = s.mains ∧ (s.assemble l bs).coils = s.coils ∧
      (s.assemble l bs).pans = s.pans ∧ (s.assemble l bs).recalls = s.recalls ∧
      (s.assemble l bs).levels = s.levels ∧ (s.assemble l bs).route = s.route ∧
      (s.assemble l bs).boardA = s.boardA ∧ (s.assemble l bs).boardB = s.boardB ∧ (s.assemble l bs).gens = s.gens ∧
      (s.assemble l bs).alloc = s.alloc ∧ (s.assemble l bs).ctl = s.ctl ∧
      (s.assemble l bs).resetting = s.resetting ∧ (s.assemble l bs).softReset = s.softReset ∧
      (s.assemble l bs).survey = s.survey ∧ (s.assemble l bs).store = s.store ∧ (s.assemble l bs).out = s.out ∧
      (s.assemble l bs).choices = s.choices ∧ (s.assemble l bs).pending = s.pending := by
  unfold State.assemble; simp

@[simp] theorem State.frameByte_frame (l : Link) (bs : List Byte) (b : Byte) :
    (s.frameByte l bs b).now = s.now ∧ (s.frameByte l bs b).mains = s.mains ∧
      (s.frameByte l bs b).coils = s.coils ∧ (s.frameByte l bs b).pans = s.pans ∧
      (s.frameByte l bs b).recalls = s.recalls ∧ (s.frameByte l bs b).levels = s.levels ∧
      (s.frameByte l bs b).route = s.route ∧ (s.frameByte l bs b).alloc = s.alloc ∧
      (s.frameByte l bs b).resetting = s.resetting ∧ (s.frameByte l bs b).softReset = s.softReset ∧
      (s.frameByte l bs b).survey = s.survey ∧ (s.frameByte l bs b).store = s.store ∧
      (s.frameByte l bs b).out = s.out ∧ (s.frameByte l bs b).choices = s.choices ∧
      (s.frameByte l bs b).pending = s.pending ∧ (s.frameByte l bs b).gens.length = s.gens.length := by
  unfold State.frameByte; dsimp only; (repeat' split) <;> simp

@[simp] theorem State.takeByte_frame (l : Link) (b : Byte) :
    (s.takeByte l b).now = s.now ∧ (s.takeByte l b).mains = s.mains ∧ (s.takeByte l b).coils = s.coils ∧
      (s.takeByte l b).pans = s.pans ∧ (s.takeByte l b).recalls = s.recalls ∧ (s.takeByte l b).levels = s.levels ∧
      (s.takeByte l b).route = s.route ∧ (s.takeByte l b).alloc = s.alloc ∧
      (s.takeByte l b).resetting = s.resetting ∧ (s.takeByte l b).softReset = s.softReset ∧
      (s.takeByte l b).survey = s.survey ∧ (s.takeByte l b).store = s.store ∧ (s.takeByte l b).out = s.out ∧
      (s.takeByte l b).choices = s.choices ∧ (s.takeByte l b).pending = s.pending ∧
      (s.takeByte l b).gens.length = s.gens.length := by
  unfold State.takeByte; (repeat' split) <;> simp

@[simp] theorem State.partnerGone_frame (p : Partner) :
    (s.partnerGone p).now = s.now ∧ (s.partnerGone p).mains = s.mains ∧ (s.partnerGone p).alloc = s.alloc ∧
      (s.partnerGone p).resetting = s.resetting ∧ (s.partnerGone p).softReset = s.softReset ∧
      (s.partnerGone p).survey = s.survey ∧ (s.partnerGone p).store = s.store ∧
      (s.partnerGone p).choices = s.choices ∧ (s.partnerGone p).pending = s.pending ∧
      (s.partnerGone p).ctl.startTimer = s.ctl.startTimer ∧ (s.partnerGone p).coils.length = s.coils.length ∧
      (s.partnerGone p).gens.length = s.gens.length ∧ (s.partnerGone p).levels.demand = s.levels.demand := by
  unfold State.partnerGone; split <;> simp

@[simp] theorem State.partnerExpiry_frame (p : Partner) :
    (s.partnerExpiry p).now = s.now ∧ (s.partnerExpiry p).mains = s.mains ∧ (s.partnerExpiry p).alloc = s.alloc ∧
      (s.partnerExpiry p).resetting = s.resetting ∧ (s.partnerExpiry p).softReset = s.softReset ∧
      (s.partnerExpiry p).survey = s.survey ∧ (s.partnerExpiry p).store = s.store ∧
      (s.partnerExpiry p).choices = s.choices ∧ (s.partnerExpiry p).pending = s.pending ∧
      (s.partnerExpiry p).ctl.startTimer = s.ctl.startTimer ∧ (s.partnerExpiry p).coils.length = s.coils.length ∧
      (s.partnerExpiry p).gens.length = s.gens.length ∧ (s.partnerExpiry p).levels.demand = s.levels.demand := by
  unfold State.partnerExpiry; split <;> simp

@[simp] theorem State.sendNext_frame (p : Partner) :
    (s.sendNext p).now = s.now ∧ (s.sendNext p).mains = s.mains ∧ (s.sendNext p).coils = s.coils ∧
      (s.sendNext p).pans = s.pans ∧ (s.sendNext p).recalls = s.recalls ∧ (s.sendNext p).levels = s.levels ∧
      (s.sendNext p).route = s.route ∧ (s.sendNext p).boardA = s.boardA ∧ (s.sendNext p).boardB = s.boardB ∧
      (s.sendNext p).gens = s.gens ∧ (s.sendNext p).alloc = s.alloc ∧ (s.sendNext p).ctl = s.ctl ∧
      (s.sendNext p).resetting = s.resetting ∧ (s.sendNext p).softReset = s.softReset ∧
      (s.sendNext p).survey = s.survey ∧ (s.sendNext p).store = s.store ∧ (s.sendNext p).choices = s.choices ∧
      (s.sendNext p).pending = s.pending := by
  unfold State.sendNext; dsimp only; (repeat' split) <;> simp

@[simp] theorem State.respond_frame (p : Partner) (k : Nat) (tag : Byte) (bs : List Byte) :
    (s.respond p k tag bs).now = s.now ∧ (s.respond p k tag bs).mains = s.mains ∧
      (s.respond p k tag bs).coils = s.coils ∧ (s.respond p k tag bs).pans = s.pans ∧
      (s.respond p k tag bs).recalls = s.recalls ∧ (s.respond p k tag bs).levels = s.levels ∧
      (s.respond p k tag bs).route = s.route ∧ (s.respond p k tag bs).boardA = s.boardA ∧
      (s.respond p k tag bs).boardB = s.boardB ∧ (s.respond p k tag bs).gens = s.gens ∧
      (s.respond p k tag bs).alloc = s.alloc ∧ (s.respond p k tag bs).ctl = s.ctl ∧
      (s.respond p k tag bs).resetting = s.resetting ∧ (s.respond p k tag bs).softReset = s.softReset ∧
      (s.respond p k tag bs).survey = s.survey ∧ (s.respond p k tag bs).store = s.store ∧
      (s.respond p k tag bs).out = s.out ∧ (s.respond p k tag bs).choices = s.choices ∧
      (s.respond p k tag bs).pending = s.pending := by
  unfold State.respond; simp

@[simp] theorem State.takeLevel_frame (p : Partner) (n l : Nat) :
    (s.takeLevel p n l).now = s.now ∧ (s.takeLevel p n l).mains = s.mains ∧ (s.takeLevel p n l).coils = s.coils ∧
      (s.takeLevel p n l).recalls = s.recalls ∧ (s.takeLevel p n l).route = s.route ∧
      (s.takeLevel p n l).boardA = s.boardA ∧ (s.takeLevel p n l).boardB = s.boardB ∧
      (s.takeLevel p n l).gens = s.gens ∧ (s.takeLevel p n l).alloc = s.alloc ∧ (s.takeLevel p n l).ctl = s.ctl ∧
      (s.takeLevel p n l).resetting = s.resetting ∧ (s.takeLevel p n l).softReset = s.softReset ∧
      (s.takeLevel p n l).survey = s.survey ∧ (s.takeLevel p n l).links = s.links ∧
      (s.takeLevel p n l).store = s.store ∧ (s.takeLevel p n l).out = s.out ∧
      (s.takeLevel p n l).choices = s.choices ∧ (s.takeLevel p n l).pending = s.pending ∧
      (s.takeLevel p n l).levels.pause = s.levels.pause := by
  unfold State.takeLevel; simp

@[simp] theorem State.endPause_frame :
    s.endPause.now = s.now ∧ s.endPause.mains = s.mains ∧ s.endPause.coils = s.coils ∧ s.endPause.pans = s.pans ∧
      s.endPause.recalls = s.recalls ∧ s.endPause.route = s.route ∧ s.endPause.boardA = s.boardA ∧
      s.endPause.boardB = s.boardB ∧ s.endPause.gens = s.gens ∧ s.endPause.alloc = s.alloc ∧
      s.endPause.ctl = s.ctl ∧ s.endPause.resetting = s.resetting ∧ s.endPause.softReset = s.softReset ∧
      s.endPause.survey = s.survey ∧ s.endPause.store = s.store ∧ s.endPause.out = s.out ∧
      s.endPause.choices = s.choices ∧ s.endPause.pending = s.pending ∧
      s.endPause.levels.demand = s.levels.demand := by
  unfold State.endPause; simp

@[simp] theorem State.takeAllOff_frame (p : Partner) :
    (s.takeAllOff p).now = s.now ∧ (s.takeAllOff p).mains = s.mains ∧ (s.takeAllOff p).coils = s.coils ∧
      (s.takeAllOff p).recalls = s.recalls ∧ (s.takeAllOff p).route = s.route ∧
      (s.takeAllOff p).boardA = s.boardA ∧ (s.takeAllOff p).boardB = s.boardB ∧ (s.takeAllOff p).gens = s.gens ∧
      (s.takeAllOff p).alloc = s.alloc ∧ (s.takeAllOff p).ctl = s.ctl ∧ (s.takeAllOff p).resetting = s.resetting ∧
      (s.takeAllOff p).softReset = s.softReset ∧ (s.takeAllOff p).survey = s.survey ∧
      (s.takeAllOff p).store = s.store ∧ (s.takeAllOff p).out = s.out ∧ (s.takeAllOff p).choices = s.choices ∧
      (s.takeAllOff p).pending = s.pending ∧ (s.takeAllOff p).levels.demand = s.levels.demand := by
  unfold State.takeAllOff; dsimp only; split <;> simp

@[simp] theorem State.beginPause_frame :
    s.beginPause.now = s.now ∧ s.beginPause.mains = s.mains ∧ s.beginPause.coils = s.coils ∧
      s.beginPause.pans = s.pans ∧ s.beginPause.recalls = s.recalls ∧ s.beginPause.route = s.route ∧
      s.beginPause.boardA = s.boardA ∧ s.beginPause.boardB = s.boardB ∧ s.beginPause.gens = s.gens ∧
      s.beginPause.alloc = s.alloc ∧ s.beginPause.ctl = s.ctl ∧ s.beginPause.resetting = s.resetting ∧
      s.beginPause.softReset = s.softReset ∧ s.beginPause.survey = s.survey ∧ s.beginPause.store = s.store ∧
      s.beginPause.out = s.out ∧ s.beginPause.choices = s.choices ∧ s.beginPause.pending = s.pending ∧
      s.beginPause.levels.demand = s.levels.demand := by
  unfold State.beginPause; simp

@[simp] theorem State.pauseExpired_frame :
    s.pauseExpired.now = s.now ∧ s.pauseExpired.mains = s.mains ∧ s.pauseExpired.coils = s.coils ∧
      s.pauseExpired.recalls = s.recalls ∧ s.pauseExpired.route = s.route ∧ s.pauseExpired.boardA = s.boardA ∧
      s.pauseExpired.boardB = s.boardB ∧ s.pauseExpired.gens = s.gens ∧ s.pauseExpired.alloc = s.alloc ∧
      s.pauseExpired.ctl = s.ctl ∧ s.pauseExpired.resetting = s.resetting ∧
      s.pauseExpired.softReset = s.softReset ∧ s.pauseExpired.survey = s.survey ∧ s.pauseExpired.store = s.store ∧
      s.pauseExpired.out = s.out ∧ s.pauseExpired.choices = s.choices ∧ s.pauseExpired.pending = s.pending ∧
      s.pauseExpired.levels.demand = s.levels.demand := by
  unfold State.pauseExpired; simp

@[simp] theorem State.enterActive_frame :
    s.enterActive.now = s.now ∧ s.enterActive.mains = s.mains ∧ s.enterActive.coils = s.coils ∧
      s.enterActive.pans = s.pans ∧ s.enterActive.recalls = s.recalls ∧ s.enterActive.route = s.route ∧
      s.enterActive.gens = s.gens ∧ s.enterActive.alloc = s.alloc ∧ s.enterActive.resetting = s.resetting ∧
      s.enterActive.softReset = s.softReset ∧ s.enterActive.survey = s.survey ∧ s.enterActive.store = s.store ∧
      s.enterActive.out = s.out ∧ s.enterActive.choices = s.choices ∧ s.enterActive.pending = s.pending ∧
      s.enterActive.ctl.startTimer = s.ctl.startTimer ∧ s.enterActive.levels.pause = s.levels.pause ∧
      s.enterActive.levels.demand = s.levels.demand := by
  unfold State.enterActive; simp

@[simp] theorem State.takeSoftReset_frame (p : Partner) (tag : Byte) :
    (s.takeSoftReset p tag).now = s.now ∧ (s.takeSoftReset p tag).mains = s.mains ∧
      (s.takeSoftReset p tag).coils = s.coils ∧ (s.takeSoftReset p tag).pans = s.pans ∧
      (s.takeSoftReset p tag).recalls = s.recalls ∧ (s.takeSoftReset p tag).levels = s.levels ∧
      (s.takeSoftReset p tag).route = s.route ∧ (s.takeSoftReset p tag).boardA = s.boardA ∧
      (s.takeSoftReset p tag).boardB = s.boardB ∧ (s.takeSoftReset p tag).gens = s.gens ∧
      (s.takeSoftReset p tag).alloc = s.alloc ∧ (s.takeSoftReset p tag).ctl = s.ctl ∧
      (s.takeSoftReset p tag).resetting = s.resetting ∧ (s.takeSoftReset p tag).survey = s.survey ∧
      (s.takeSoftReset p tag).store.settings = s.store.settings ∧
      (s.takeSoftReset p tag).store.exclusion = s.store.exclusion ∧
      (s.takeSoftReset p tag).store.lock = s.store.lock ∧
      (s.takeSoftReset p tag).store.showroomTable = s.store.showroomTable ∧
      (s.takeSoftReset p tag).store.storing = none ∧ (s.takeSoftReset p tag).out = s.out ∧
      (s.takeSoftReset p tag).choices = s.choices ∧ (s.takeSoftReset p tag).pending = s.pending := by
  unfold State.takeSoftReset; simp

@[simp] theorem State.startSurvey_frame :
    s.startSurvey.now = s.now ∧ s.startSurvey.mains = s.mains ∧ s.startSurvey.coils = s.coils ∧
      s.startSurvey.pans = s.pans ∧ s.startSurvey.recalls = s.recalls ∧ s.startSurvey.levels = s.levels ∧
      s.startSurvey.route = s.route ∧ s.startSurvey.boardA = s.boardA ∧ s.startSurvey.boardB = s.boardB ∧
      s.startSurvey.gens = s.gens ∧ s.startSurvey.alloc = s.alloc ∧ s.startSurvey.resetting = s.resetting ∧
      s.startSurvey.softReset = s.softReset ∧ s.startSurvey.store = s.store ∧ s.startSurvey.out = s.out ∧
      s.startSurvey.choices = s.choices + 1 ∧ s.startSurvey.pending = s.pending ∧
      s.startSurvey.ctl.startTimer = s.ctl.startTimer := by
  unfold State.startSurvey; simp

@[simp] theorem State.settingsChanged_frame (b : Settings) :
    (s.settingsChanged b).now = s.now ∧ (s.settingsChanged b).mains = s.mains ∧
      (s.settingsChanged b).pans = s.pans ∧ (s.settingsChanged b).levels = s.levels ∧
      (s.settingsChanged b).route = s.route ∧ (s.settingsChanged b).gens = s.gens ∧
      (s.settingsChanged b).alloc = s.alloc ∧ (s.settingsChanged b).ctl = s.ctl ∧
      (s.settingsChanged b).resetting = s.resetting ∧ (s.settingsChanged b).softReset = s.softReset ∧
      (s.settingsChanged b).survey = s.survey ∧ (s.settingsChanged b).links = s.links ∧
      (s.settingsChanged b).store = s.store ∧ (s.settingsChanged b).out = s.out ∧
      (s.settingsChanged b).choices = s.choices ∧ (s.settingsChanged b).pending = s.pending ∧
      (s.settingsChanged b).coils.length = s.coils.length := by
  unfold State.settingsChanged; dsimp only; (repeat' split) <;> simp

@[simp] theorem State.storeCompleted_frame (c : Storing) :
    (s.storeCompleted c).now = s.now ∧ (s.storeCompleted c).mains = s.mains ∧
      (s.storeCompleted c).coils = s.coils ∧ (s.storeCompleted c).pans = s.pans ∧
      (s.storeCompleted c).recalls = s.recalls ∧ (s.storeCompleted c).levels = s.levels ∧
      (s.storeCompleted c).route = s.route ∧ (s.storeCompleted c).boardA = s.boardA ∧
      (s.storeCompleted c).boardB = s.boardB ∧ (s.storeCompleted c).gens = s.gens ∧
      (s.storeCompleted c).alloc = s.alloc ∧ (s.storeCompleted c).ctl = s.ctl ∧
      (s.storeCompleted c).resetting = s.resetting ∧ (s.storeCompleted c).softReset = s.softReset ∧
      (s.storeCompleted c).survey = s.survey ∧ (s.storeCompleted c).out = s.out ∧
      (s.storeCompleted c).choices = s.choices ∧ (s.storeCompleted c).pending = s.pending ∧
      (s.storeCompleted c).store.settings = s.store.settings ∧
      (s.storeCompleted c).store.exclusion = s.store.exclusion ∧
      (s.storeCompleted c).store.lock = s.store.lock := by
  unfold State.storeCompleted; simp

@[simp] theorem State.load_frame :
    s.load.now = s.now ∧ s.load.mains = s.mains ∧ s.load.pans = s.pans ∧ s.load.recalls = s.recalls ∧
      s.load.levels = s.levels ∧ s.load.route = s.route ∧ s.load.boardA = s.boardA ∧ s.load.boardB = s.boardB ∧
      s.load.gens = s.gens ∧ s.load.alloc = s.alloc ∧ s.load.ctl = s.ctl ∧ s.load.resetting = s.resetting ∧
      s.load.softReset = s.softReset ∧ s.load.survey = s.survey ∧ s.load.links = s.links ∧ s.load.out = s.out ∧
      s.load.choices = s.choices ∧ s.load.pending = s.pending ∧ s.load.store.exclusion = s.store.exclusion ∧
      s.load.store.lock = s.store.lock ∧ s.load.coils.length = s.coils.length := by
  unfold State.load; simp

@[simp] theorem State.loadLimits_frame :
    s.loadLimits.now = s.now ∧ s.loadLimits.coils = s.coils ∧ s.loadLimits.pans = s.pans ∧
      s.loadLimits.recalls = s.recalls ∧ s.loadLimits.levels = s.levels ∧ s.loadLimits.route = s.route ∧
      s.loadLimits.boardA = s.boardA ∧ s.loadLimits.boardB = s.boardB ∧ s.loadLimits.gens = s.gens ∧
      s.loadLimits.alloc = s.alloc ∧ s.loadLimits.ctl = s.ctl ∧ s.loadLimits.resetting = s.resetting ∧
      s.loadLimits.softReset = s.softReset ∧ s.loadLimits.survey = s.survey ∧ s.loadLimits.links = s.links ∧
      s.loadLimits.store = s.store ∧ s.loadLimits.out = s.out ∧ s.loadLimits.choices = s.choices ∧
      s.loadLimits.pending = s.pending ∧ s.loadLimits.mains.frame = s.mains.frame := by
  unfold State.loadLimits; simp

@[simp] theorem State.startLineDowns_frame :
    s.startLineDowns.now = s.now ∧ s.startLineDowns.mains = s.mains ∧ s.startLineDowns.coils = s.coils ∧
      s.startLineDowns.pans = s.pans ∧ s.startLineDowns.recalls = s.recalls ∧ s.startLineDowns.levels = s.levels ∧
      s.startLineDowns.route = s.route ∧ s.startLineDowns.gens = s.gens ∧ s.startLineDowns.alloc = s.alloc ∧
      s.startLineDowns.ctl = s.ctl ∧ s.startLineDowns.resetting = s.resetting ∧
      s.startLineDowns.softReset = s.softReset ∧ s.startLineDowns.survey = s.survey ∧
      s.startLineDowns.links = s.links ∧ s.startLineDowns.store = s.store ∧ s.startLineDowns.out = s.out ∧
      s.startLineDowns.choices = s.choices ∧ s.startLineDowns.pending = s.pending := by
  unfold State.startLineDowns; simp

@[simp] theorem State.toResetValues_frame :
    s.toResetValues.now = s.now ∧ s.toResetValues.resetting = s.resetting ∧ s.toResetValues.out = s.out ∧
      s.toResetValues.choices = s.choices ∧ s.toResetValues.pending = s.pending := by
  unfold State.toResetValues; simp

@[simp] theorem State.endReset_frame (r : Resetting) :
    (s.endReset r).now = s.now ∧ (s.endReset r).recalls = s.recalls ∧ (s.endReset r).levels = s.levels ∧
      (s.endReset r).route = s.route ∧ (s.endReset r).softReset = s.softReset ∧
      (s.endReset r).pending = s.pending ∧ (s.endReset r).store.exclusion = s.store.exclusion ∧
      (s.endReset r).store.lock = s.store.lock ∧ (s.endReset r).coils.length = s.coils.length ∧
      (s.endReset r).gens.length = s.gens.length := by
  unfold State.endReset; simp

end Sys2Proof.Machine
end

