-- ==== Sys2Proof/Laws/Ops.lean ====
section
/-! SUPPORT. What each shared operation can do, said once: the enable lines, the auto-off timer, expiries, captures,
and what a step can do. -/

namespace Sys2Proof.Machine

open Sys2Proof.Safety

variable (s : State)

/-! ### Steps -/

/-- All that a step can do: the front command, a due expiry, or a microsecond. -/
theorem step_cases {s t : State} (h : step s = .next t) :
    (∃ c rest, s.pending = c :: rest ∧ exec c (s.withPending rest) = .next t) ∨
      (∃ c, s.pending = [] ∧ s.nextDue = some c ∧ exec c s = .next t) ∨
      (s.pending = [] ∧ s.nextDue = none ∧ t = s.elapse 1) := by
  unfold step at h
  split at h
  · rename_i c rest hq; exact .inl ⟨c, rest, hq, h⟩
  · rename_i hq
    split at h
    · rename_i c hc; exact .inr (.inl ⟨c, hq, hc, h⟩)
    · rename_i hn; exact .inr (.inr ⟨hq, hn, by simpa using h.symm⟩)

/-- What holds of a state through every command, and does not look at the clock or the queue, holds through a step. -/
theorem step_keeps {Inv : State → Prop} (hq : ∀ s q, Inv s → Inv (s.withPending q))
    (he : ∀ c s t, Inv s → exec c s = .next t → Inv t) (ht : ∀ s, Inv s → Inv (s.elapse 1)) {s t : State}
    (hs : Inv s) (h : step s = .next t) : Inv t := by
  obtain ⟨c, rest, -, hx⟩ | ⟨c, -, -, hx⟩ | ⟨-, -, rfl⟩ := step_cases h
  · exact he c _ _ (hq _ _ hs) hx
  · exact he c _ _ hs hx
  · exact ht _ hs

/-- Every command completes. -/
theorem exec_next (c : Instr) : ∃ t, exec c s = .next t := by cases c <;> exact ⟨_, rfl⟩

/-! ### Time and expiries -/

@[simp] theorem State.unlessReset_none {s : State} (f : State → State) (h : s.resetting = none) :
    s.unlessReset f = f s := by simp [State.unlessReset, h]

@[simp] theorem State.unlessReset_some {s : State} (f : State → State) {r : Resetting} (h : s.resetting = some r) :
    s.unlessReset f = s := by simp [State.unlessReset, h]

@[simp] theorem State.expire_none (f : State → State) : s.expire none f = s := rfl

@[simp] theorem State.expire_some (d : Nat) (f : State → State) : s.expire (some d) f = f (s.elapseTo d) := rfl

/-- Through a command that the reset may shut out, what `f` keeps is kept. -/
theorem State.unlessReset_keeps {Inv : State → Prop} {f : State → State} {s : State} (hs : Inv s)
    (hf : s.resetting = none → Inv (f s)) : Inv (s.unlessReset f) := by
  unfold State.unlessReset; split
  · exact hs
  · exact hf (by simpa using ‹¬s.resetting.isSome = true›)

/-- Through an expiry, what the time and `f` keep is kept. -/
theorem State.expire_keeps {Inv : State → Prop} {f : State → State} {s : State} {t : Timer} (hs : Inv s)
    (hf : ∀ d, t = some d → Inv (f (s.elapseTo d))) : Inv (s.expire t f) := by
  cases t with
  | none => exact hs
  | some d => exact hf d rfl

@[simp] theorem State.elapse_zero (h : ∀ p ∈ s.pans, p.boostCounts s.levels.pause = false) : s.elapse 0 = s := by
  have : s.pans.map (fun p => if p.boostCounts s.levels.pause then p.countBoost 0 else p) = s.pans := by
    conv_rhs => rw [← List.map_id s.pans]
    exact List.map_congr_left (fun p hp => by simp [h p hp])
  simp [State.elapse, this]

/-- The passing of time leaves everything of a pan but its boost. -/
theorem Pan.countBoost_frame (dt : Nat) (p : Pan) :
    ∃ b n, p.countBoost dt = { p with boost := b, boostCounted := n } ∧ (b.isSome = p.boost.isSome) := by
  unfold Pan.countBoost
  split
  · exact ⟨p.boost, p.boostCounted, rfl, rfl⟩
  · dsimp only; split <;> exact ⟨_, _, rfl, by simp [*]⟩

/-- The pans after time has passed: each as before but for its boost. -/
theorem State.elapse_pans (dt : Nat) : ∃ f : Pan → Pan, (s.elapse dt).pans = s.pans.map f ∧
    ∀ p, ∃ b n, f p = { p with boost := b, boostCounted := n } ∧ b.isSome = p.boost.isSome := by
  refine ⟨fun p => if p.boostCounts s.levels.pause then p.countBoost dt else p, rfl, fun p => ?_⟩
  dsimp only; split
  · exact p.countBoost_frame dt
  · exact ⟨p.boost, p.boostCounted, rfl, rfl⟩

/-! ### The enable lines (R105) -/

theorem State.lineWanted_congr {s t : State} (hc : t.ctl.mode = s.ctl.mode)
    (hs : t.store.settings.showroom = s.store.settings.showroom) (bd : Board) (hl : t.boardLink bd = s.boardLink bd)
    (hb : (t.board bd).stuck = (s.board bd).stuck) : t.lineWanted bd = s.lineWanted bd := by
  simp only [State.lineWanted, hc, hs, hl, hb]

/-- A board's record after its line has been judged. -/
theorem State.judgeLine_board (bd : Board) :
    (s.judgeLine bd).board bd =
      if s.lineWanted bd = (s.board bd).line then s.board bd
      else if s.lineWanted bd then
        { s.board bd with line := true, settled := false, lineDown := none, freeFaults := false }
      else { s.board bd with line := false, lineDown := some (s.now + stopDelay) } := by
  unfold State.judgeLine; split <;> [rfl; split <;> simp]

theorem State.judgeLine_board_ne {bd q : Board} (h : q ≠ bd) : (s.judgeLine bd).board q = s.board q := by
  unfold State.judgeLine; split <;> [rfl; split <;> exact State.board_modBoard_ne _ _ h]

@[simp] theorem State.judgeLine_boardLink (bd q : Board) : (s.judgeLine bd).boardLink q = s.boardLink q :=
  State.boardLink_congr (by simp) q

/-- Judging a line changes no condition of either line. -/
@[simp] theorem State.judgeLine_lineWanted (bd q : Board) : (s.judgeLine bd).lineWanted q = s.lineWanted q := by
  apply State.lineWanted_congr <;> try simp
  by_cases h : q = bd
  · subst h; rw [State.judgeLine_board]; (repeat' split) <;> rfl
  · rw [State.judgeLine_board_ne _ h]

/-- R105: once judged, a line follows its conditions. -/
@[simp] theorem State.judgeLine_line (bd : Board) : ((s.judgeLine bd).board bd).line = s.lineWanted bd := by
  rw [State.judgeLine_board]; (repeat' split) <;> simp_all

theorem State.judgeLines_board (bd : Board) : s.judgeLines.board bd = (s.judgeLine bd).board bd := by
  unfold State.judgeLines
  cases bd
  · rw [State.judgeLine_board_ne _ (by decide)]
  · rw [State.judgeLine_board, State.judgeLine_board]
    simp [State.judgeLine_board_ne s (bd := .a) (q := .b) (by decide)]

/-- R105: once both are judged, both lines follow their conditions. -/
theorem State.judgeLines_follow : LinesFollow s.judgeLines := by
  have h : ∀ bd, (s.judgeLines.board bd).line = s.judgeLines.lineWanted bd := fun bd => by
    rw [State.judgeLines_board]; simp [State.judgeLines]
  exact ⟨h .a, h .b⟩

/-! ### The auto-off timer (R72) -/

/-- The auto-off timer after it has been judged, the rest of the state as before. -/
theorem State.judgeAutoOff_eq :
    s.judgeAutoOff = { s with levels := { s.levels with autoOff := autoOffWith s s.pans s.levels.pause } } := by
  have hw : s.autoOffHolds = true ↔ s.ctl.mode = .active ∧ s.levels.pause = false ∧ ∀ p ∈ s.pans, p.level = 0 := by
    simp [State.autoOffHolds, and_assoc]
  unfold State.judgeAutoOff autoOffWith
  by_cases h : s.autoOffHolds = true
  · rw [if_pos h, if_pos (hw.1 h)]
    rcases ha : s.levels.autoOff with _ | d
    · simp
    · simp only [Option.isSome_some, if_true]; rw [← ha]
  · rw [if_neg h, if_neg (fun x => h (hw.2 x))]

/-! ### Captures -/

theorem State.captureAll_eq (es : List Event) :
    s.captureAll es = { s with links := linksWith s es } := by
  induction es generalizing s with
  | nil => rfl
  | cons e rest ih => simp [State.captureAll, List.foldl_cons] at ih ⊢; rw [ih]; rfl

theorem State.capture_eq (e : Event) : s.capture e = { s with links := linksWith s [e] } := rfl

@[simp] theorem State.captureAll_boardLink (es : List Event) (bd : Board) :
    (s.captureAll es).boardLink bd = s.boardLink bd := by simp [State.boardLink]

@[simp] theorem State.captureAll_partner_link (es : List Event) (p : Partner) :
    ((s.captureAll es).partner p).link = (s.partner p).link := by
  have h : ∀ l, (s.captureAll es).link l = s.link l := by simp
  cases p <;> [exact h .panel; exact h .remote]

/-- What several captures enter: each event of the list where it is enabled or always captured (R166). -/
theorem holds_enterAll (es : List Event) (x : Event) (r : PartnerRec) :
    holds (enterAll es r).captured x =
      (holds r.captured x || (decide (x ∈ es) && (holds r.enabled x || alwaysCaptured x))) := by
  induction es generalizing r with
  | nil => simp [enterAll]
  | cons e rest ih =>
    simp only [enterAll, List.foldl_cons] at ih ⊢
    rw [ih, holds_enterEvent, enterEvent_enabled]
    by_cases h : x = e <;> simp [h, Bool.or_assoc]
    cases holds r.captured e <;> cases holds r.enabled e <;> simp

end Sys2Proof.Machine
end

