-- ==== Sys2Proof/Laws/Requests.lean ====
section
/-! SUPPORT. What the taking of a frame from a queue can do: the requests of the panel and the remote, and the frames
of the boards. -/

namespace Sys2Proof.Machine

open Sys2Proof.Safety

variable {s : State} {p : Partner} {f : Frame} {rest : List Frame} {req : Request}

/-- The state once the front frame of a partner's queue has been taken out. -/
abbrev State.dequeue (p : Partner) (rest : List Frame) (s : State) : State :=
  s.modLink (partnerLink p) (fun r => { r with queue := rest })

@[simp] theorem State.dequeue_partner (p : Partner) (rest : List Frame) (s : State) :
    (s.dequeue p rest).partner p = { s.partner p with link := { (s.partner p).link with queue := rest } } := by
  cases p <;> rfl

/-- A frame at the front, of the kind wanted, is taken and acted on. -/
theorem State.takePartnerFrame_ready (h : Ready s p f rest) {want : Byte → Bool} (hw : want f.kind = true)
    (act : Frame → State → State) : s.takePartnerFrame p want act = act f (s.dequeue p rest) := by
  simp [State.takePartnerFrame, h.2.2, hw, h.2.1]

/-- A frame at the front, of another kind, is left. -/
theorem State.takePartnerFrame_other (h : Ready s p f rest) {want : Byte → Bool} (hw : want f.kind = false)
    (act : Frame → State → State) : s.takePartnerFrame p want act = s := by
  simp [State.takePartnerFrame, h.2.2, hw]

/-- All that the taking of a frame can do: nothing, a frame taken out and dropped, or a frame taken and acted on. -/
theorem State.takePartnerFrame_cases (s : State) (p : Partner) (want : Byte → Bool) (act : Frame → State → State) :
    s.takePartnerFrame p want act = s ∨
      ∃ f rest, (s.partner p).link.queue = f :: rest ∧ want f.kind = true ∧
        s.takePartnerFrame p want act = if s.softReset then s.dequeue p rest else act f (s.dequeue p rest) := by
  unfold State.takePartnerFrame
  split
  · exact .inl rfl
  · split
    · exact .inr ⟨_, _, ‹_›, ‹_›, rfl⟩
    · exact .inl rfl

/-- R162: a request that is ready reaches its owner, whose answer is produced. -/
theorem State.serve_ready (h : ReadyFor s p req f rest) (body : List Byte → State → Served) :
    s.serve p req body =
      (body f.payload (s.dequeue p rest)).state.respond p (s.partner p).produced.length f.tag
        (answer (body f.payload (s.dequeue p rest)).reply (body f.payload (s.dequeue p rest)).data) := by
  obtain ⟨hr, hk, hp, hl⟩ := h
  have hj : judgeRequest p req body f.payload (s.dequeue p rest) = body f.payload (s.dequeue p rest) := by
    unfold judgeRequest
    rw [if_neg (by cases p <;> simp_all), if_neg (by simpa using hl)]
  simp [State.serve, State.takePartnerFrame_ready hr (want := fun k => k = requestCode req) (by simp [hk]), hj]

/-- The links once a response has been produced in a state whose links are those of `s` with the frame taken and
these events captured. -/
theorem State.respond_eq (s u : State) (p : Partner) (f : Frame) (rest : List Frame) (es : List Event)
    (hu : u.links = linksWith (s.dequeue p rest) es) (r : Reply) (data : List Byte) :
    u.respond p (s.partner p).produced.length f.tag (answer r data) =
      { u with links := linksAfter s p rest es (responseTo f r data) } := by
  cases p <;> simp only [State.respond, State.modPartner, hu] <;> rfl

/-- A request whose owner changes nothing but by captures is answered so. -/
theorem State.serve_answered (h : ReadyFor s p req f rest) {body : List Byte → State → Served} {r : Reply}
    {data : List Byte} (hb : body f.payload (s.dequeue p rest) = { state := s.dequeue p rest, reply := r, data := data }) :
    s.serve p req body = answered s p f rest r data := by
  rw [State.serve_ready h, hb, State.respond_eq s _ p f rest [] rfl]
  cases p <;> rfl

/-- A request whose owner leaves the state `u`, with these events captured, is answered so. -/
theorem State.serve_taken (h : ReadyFor s p req f rest) {body : List Byte → State → Served} {u : State} {r : Reply}
    {data : List Byte} {es : List Event}
    (hb : body f.payload (s.dequeue p rest) = { state := u, reply := r, data := data })
    (hu : u.links = linksWith (s.dequeue p rest) es) :
    s.serve p req body = { u with links := linksAfter s p rest es (responseTo f r data) } := by
  rw [State.serve_ready h, hb, State.respond_eq s _ p f rest es hu]

/-- Through a request, what the taking out of a frame, the owner and the production of a response keep is kept. -/
theorem State.serve_keeps {Inv : State → Prop} {body : List Byte → State → Served} (hs : Inv s)
    (hq : ∀ rest, Inv (s.dequeue p rest)) (hb : ∀ b rest, Inv (s.dequeue p rest) → Inv (body b (s.dequeue p rest)).state)
    (hr : ∀ t k tag bytes, Inv t → Inv (t.respond p k tag bytes)) : Inv (s.serve p req body) := by
  unfold State.serve
  obtain h | ⟨f, rest, -, -, h⟩ := State.takePartnerFrame_cases s p _ _
  · rw [h]; exact hs
  · rw [h]; split
    · exact hq rest
    · apply hr; unfold judgeRequest
      split <;> [exact hq rest; split <;> [exact hq rest; exact hb _ rest (hq rest)]]

/-- A board's frame at the front, of the kind commanded, is taken and acted on. -/
theorem State.takeBoardFrame_ready {bd : Board} (h : BoardReady s bd f rest) {kind : Byte} (hk : f.kind = kind)
    (act : Frame → State → State) :
    s.takeBoardFrame bd kind act = act f (s.modLink (boardLinkId bd) (fun r => { r with queue := rest })) := by
  simp [State.takeBoardFrame, h.2.2, hk, h.2.1]

/-- All that the taking of a board's frame can do. -/
theorem State.takeBoardFrame_cases (s : State) (bd : Board) (kind : Byte) (act : Frame → State → State) :
    s.takeBoardFrame bd kind act = s ∨
      ∃ f rest, (s.link (boardLinkId bd)).queue = f :: rest ∧ f.kind = kind ∧ (s.boardLink bd).up = true ∧
        s.takeBoardFrame bd kind act = act f (s.modLink (boardLinkId bd) (fun r => { r with queue := rest })) := by
  unfold State.takeBoardFrame
  split
  · exact .inl rfl
  · split
    · rename_i f rest hq hc; simp at hc; exact .inr ⟨f, rest, hq, hc.1, hc.2, rfl⟩
    · exact .inl rfl

end Sys2Proof.Machine
end

