-- ==== Sys2Proof/Laws/Tracking.lean ====
section
/-! SUPPORT. What the operations of a tracking pass compute, said once: the growing of a set is reachability, the
components are those of R36, the matched ones those of R37, and the coils are attributed by R38 and R39. -/

namespace Sys2Proof.Machine

open Sys2Proof.Safety Relation

/-! ### Growing a set -/

/-- One step of growth: to a member of `among` linked to the coil or generator before it. -/
abbrev Grows (among : List Nat) (linked : Nat → Nat → Bool) (x y : Nat) : Prop := y ∈ among ∧ linked y x = true

theorem closure_sound (among : List Nat) (linked : Nat → Nat → Bool) (fuel : Nat) (set : List Nat) {d : Nat}
    (h : d ∈ closure among linked fuel set) : ∃ c ∈ set, ReflTransGen (Grows among linked) c d := by
  induction fuel generalizing set with
  | zero => exact ⟨d, h, .refl⟩
  | succ fuel ih =>
    simp only [closure] at h
    split at h
    · exact ⟨d, h, .refl⟩
    · obtain ⟨c, hc, hr⟩ := ih _ h
      simp only [List.mem_filter, Bool.or_eq_true, List.contains_iff_mem, List.any_eq_true] at hc
      obtain ⟨hca, hcs | ⟨x, hx, hl⟩⟩ := hc
      · exact ⟨c, hcs, hr⟩
      · exact ⟨x, hx, .head ⟨hca, hl⟩ hr⟩

theorem subset_closure {among : List Nat} (linked : Nat → Nat → Bool) (fuel : Nat) {set : List Nat} (h : set ⊆ among) :
    set ⊆ closure among linked fuel set := by
  induction fuel generalizing set with
  | zero => exact fun _ hx => hx
  | succ fuel ih =>
    simp only [closure]
    split
    · exact fun _ hx => hx
    · refine fun x hx => ih List.filter_sublist.subset ?_
      simp [h hx, hx]

theorem closure_subset {among : List Nat} (linked : Nat → Nat → Bool) (fuel : Nat) {set : List Nat} (h : set ⊆ among) :
    closure among linked fuel set ⊆ among := by
  induction fuel generalizing set with
  | zero => exact h
  | succ fuel ih =>
    simp only [closure]
    split
    · exact h
    · exact ih List.filter_sublist.subset

theorem closure_closed {among : List Nat} {linked : Nat → Nat → Bool} (ha : among.Nodup) {fuel : Nat} {set : List Nat}
    (hs : set.Nodup) (hsub : set ⊆ among) (hf : among.length ≤ fuel + set.length) {x y : Nat}
    (hx : x ∈ closure among linked fuel set) (hy : Grows among linked x y) : y ∈ closure among linked fuel set := by
  induction fuel generalizing set with
  | zero =>
    have : set.Perm among := (hs.subperm hsub).perm_of_length_le (by omega)
    exact this.mem_iff.2 hy.1
  | succ fuel ih =>
    simp only [closure] at hx ⊢
    set next := among.filter (fun c => set.contains c || set.any (fun d => linked c d)) with hn
    have hns : next.Nodup := ha.filter _
    have hsn : set ⊆ next := fun z hz => by simp [hn, hsub hz, hz]
    have hle := (hs.subperm hsn).length_le
    split at hx <;> rename_i hlen
    · have : set.Perm next := (hs.subperm hsn).perm_of_length_le (by omega)
      rw [if_pos hlen]
      refine this.mem_iff.2 ?_
      simp only [hn, List.mem_filter, Bool.or_eq_true, List.contains_iff_mem, List.any_eq_true]
      exact ⟨hy.1, .inr ⟨x, hx, hy.2⟩⟩
    · rw [if_neg hlen]
      exact ih hns List.filter_sublist.subset (by omega) hx

/-- With fuel for every member, a grown set holds just what can be reached from the set it grew from. -/
theorem mem_closure {among : List Nat} {linked : Nat → Nat → Bool} (ha : among.Nodup) {fuel : Nat} {set : List Nat}
    (hs : set.Nodup) (hsub : set ⊆ among) (hf : among.length ≤ fuel + set.length) {d : Nat} :
    d ∈ closure among linked fuel set ↔ ∃ c ∈ set, ReflTransGen (Grows among linked) c d := by
  refine ⟨closure_sound _ _ _ _, ?_⟩
  rintro ⟨c, hc, hr⟩
  induction hr with
  | refl => exact subset_closure _ _ hsub hc
  | tail _ hy ih => exact closure_closed ha hs hsub hf ih hy

/-- A set grown from one member keeps the order of `among`. -/
theorem closure_ascending {among : List Nat} (linked : Nat → Nat → Bool) (ha : among.Pairwise (· < ·)) (fuel : Nat)
    {set : List Nat} (hs : set.Pairwise (· < ·)) : (closure among linked fuel set).Pairwise (· < ·) := by
  induction fuel generalizing set with
  | zero => exact hs
  | succ fuel ih =>
    simp only [closure]
    split
    · exact hs
    · exact ih (ha.filter _)

/-! ### Components (R36) -/

/-- What a list of components is, for a symmetric relation on an ascending list. -/
theorem componentsOf_spec {joined : Nat → Nat → Bool} (hsym : ∀ c d, joined c d = joined d c) (fuel : Nat)
    {l : List Nat} (hl : l.Pairwise (· < ·)) (hf : l.length ≤ fuel) (h48 : l.length ≤ 48) :
    (∀ f ∈ componentsOf joined fuel l, f ≠ [] ∧ f.Pairwise (· < ·) ∧
      ∀ c ∈ f, c ∈ l ∧ ∀ d, d ∈ f ↔ ReflTransGen (Grows l joined) c d) ∧
    (∀ c ∈ l, ∃ f ∈ componentsOf joined fuel l, c ∈ f) ∧
    (componentsOf joined fuel l).Pairwise (fun f g => ∃ c ∈ f, ∀ d ∈ g, c < d) := by
  induction fuel generalizing l with
  | zero =>
    have : l = [] := by simpa using hf
    subst this; simp [componentsOf]
  | succ fuel ih =>
    cases l with
    | nil => simp [componentsOf]
    | cons c rest =>
      simp only [componentsOf]
      set comp := closure (c :: rest) joined 48 [c] with hcomp
      set rem := rest.filter (fun d => !comp.contains d) with hrem
      have hnd : (c :: rest).Nodup := hl.imp (fun h => Nat.ne_of_lt h)
      have hcs : [c] ⊆ c :: rest := by simp
      have hmem : ∀ d, d ∈ comp ↔ ReflTransGen (Grows (c :: rest) joined) c d := fun d => by
        rw [hcomp, mem_closure hnd (by simp) hcs (by simp at h48 ⊢; omega)]; simp
      have hcc : c ∈ comp := (hmem c).2 .refl
      have hsub : comp ⊆ c :: rest := closure_subset _ _ hcs
      have hflip : ∀ {x y}, x ∈ c :: rest → Grows (c :: rest) joined x y → Grows (c :: rest) joined y x :=
        fun hx h => ⟨hx, by rw [hsym]; exact h.2⟩
      have hback : ∀ {x y}, x ∈ c :: rest → ReflTransGen (Grows (c :: rest) joined) x y →
          ReflTransGen (Grows (c :: rest) joined) y x := by
        intro x y hx h
        have hm : ∀ {z}, ReflTransGen (Grows (c :: rest) joined) x z → z ∈ c :: rest := fun h => by
          induction h with
          | refl => exact hx
          | tail _ h _ => exact h.1
        induction h with
        | refl => exact .refl
        | tail h1 h2 ih => exact .head (hflip (hm h1) h2) ih
      have hremsub : rem ⊆ rest := List.filter_sublist.subset
      have hnot : ∀ d ∈ rem, d ∉ comp := fun d hd => by simpa using (List.mem_filter.1 hd).2
      have hremOf : ∀ d ∈ c :: rest, d ∉ comp → d ∈ rem := fun d hd hn => by
        rcases List.mem_cons.1 hd with rfl | hd
        · exact absurd hcc hn
        · exact List.mem_filter.2 ⟨hd, by simpa using hn⟩
      have hrl : rem.length ≤ rest.length := List.length_filter_le _ _
      have hrasc : rem.Pairwise (· < ·) := (List.pairwise_cons.1 hl).2.filter _
      obtain ⟨i1, i2, i3⟩ := ih hrasc (by simp at hf; omega) (by simp at h48; omega)
      -- reachability within the rest is reachability as a whole, from a coil outside the first component
      have hwhole : ∀ {x d}, x ∈ rem →
          (ReflTransGen (Grows rem joined) x d ↔ ReflTransGen (Grows (c :: rest) joined) x d) := by
        intro x d hx
        refine ⟨fun h => h.lift id (fun _ _ h => ⟨.tail _ (hremsub h.1), h.2⟩), fun h => ?_⟩
        have key : ReflTransGen (Grows rem joined) x d ∧ d ∈ rem := by
          induction h with
          | refl => exact ⟨.refl, hx⟩
          | @tail y z _ h2 ih =>
            have hz : z ∈ rem := hremOf z h2.1 (fun hzc =>
              hnot y ih.2 ((hmem y).2 (((hmem z).1 hzc).tail (hflip (.tail _ (hremsub ih.2)) h2))))
            exact ⟨ih.1.tail ⟨hz, h2.2⟩, hz⟩
        exact key.1
      refine ⟨?_, ?_, ?_⟩
      · intro f hf'
        rcases List.mem_cons.1 hf' with rfl | hf'
        · refine ⟨List.ne_nil_of_mem hcc, closure_ascending _ hl _ (by simp), fun x hx => ⟨hsub hx, fun d => ?_⟩⟩
          rw [hmem]
          have hcx := (hmem x).1 hx
          exact ⟨fun h => (hback (by simp) hcx).trans h, fun h => hcx.trans h⟩
        · obtain ⟨h1, h2, h3⟩ := i1 f hf'
          refine ⟨h1, h2, fun x hx => ⟨.tail _ (hremsub (h3 x hx).1), fun d => ?_⟩⟩
          rw [(h3 x hx).2 d, hwhole (h3 x hx).1]
      · intro x hx
        by_cases hxc : x ∈ comp
        · exact ⟨comp, by simp, hxc⟩
        · obtain ⟨f, hf', hxf⟩ := i2 x (hremOf x hx hxc)
          exact ⟨f, List.mem_cons_of_mem _ hf', hxf⟩
      · refine List.pairwise_cons.2 ⟨fun g hg => ⟨c, hcc, fun d hd => ?_⟩, i3⟩
        exact (List.pairwise_cons.1 hl).1 d (hremsub ((i1 g hg).2.2 d hd).1)

/-! ### The components and matched components of a state (R36, R37) -/

theorem mem_strictlyBetween (x y k : Nat) : k ∈ strictlyBetween x y ↔ (x < k ∧ k < y) ∨ (y < k ∧ k < x) := by
  simp only [strictlyBetween, List.mem_filter, List.mem_range, decide_eq_true_eq]
  omega

/-- The coils between two coils are those of R36. -/
theorem mem_coilsBetween (c d k : Nat) : k ∈ coilsBetween c d ↔ Between c d k := by
  have hr : ∀ x : Nat, rowOf x = x / 12 := fun _ => rfl
  have hc : ∀ x : Nat, colOf x = x % 12 := fun _ => rfl
  have hk : ∀ x : Nat, 12 * rowOf x + colOf x = x := fun x => by rw [hr, hc]; omega
  unfold coilsBetween Between
  split
  · rename_i hrow
    simp only [List.mem_map, mem_strictlyBetween]
    constructor
    · rintro ⟨j, hj, rfl⟩
      have hj12 : j < 12 := by rcases hj with hj | hj <;> simp only [hc] at hj <;> omega
      have h1 : rowOf (12 * rowOf c + j) = rowOf c := by simp only [hr]; omega
      have h2 : colOf (12 * rowOf c + j) = j := by simp only [hc, hr]; omega
      rw [h1, h2]; exact .inl ⟨rfl, hrow, hj⟩
    · rintro (⟨h1, -, h3⟩ | ⟨-, -, h3⟩)
      · exact ⟨colOf k, h3, by rw [← h1]; exact hk k⟩
      · omega
  · rename_i hrow
    split
    · rename_i hcol
      simp only [List.mem_map, mem_strictlyBetween]
      constructor
      · rintro ⟨j, hj, rfl⟩
        have hlt : colOf c < 12 := by rw [hc]; omega
        have h1 : rowOf (12 * j + colOf c) = j := by simp only [hr]; omega
        have h2 : colOf (12 * j + colOf c) = colOf c := by
          have := hc (12 * j + colOf c); omega
        rw [h1, h2]; exact .inr ⟨rfl, hcol, hj⟩
      · rintro (⟨h1, h2, -⟩ | ⟨h1, -, h3⟩)
        · omega
        · exact ⟨rowOf k, h3, by rw [← h1]; exact hk k⟩
    · rename_i hcol
      simp only [List.not_mem_nil, false_iff]
      rintro (⟨h1, h2, -⟩ | ⟨h1, h2, -⟩) <;> omega

/-- Two coils are joined as R36 says. -/
theorem joined_iff (u : State) (c d : Nat) : u.joined c d = true ↔ JoinedCoils u c d := by
  unfold State.joined JoinedCoils
  rw [Bool.or_eq_true, Bool.and_eq_true]
  refine or_congr .rfl (and_congr ?_ ?_)
  · simp only [Bool.not_eq_true', List.isEmpty_eq_false_iff, ← mem_coilsBetween]
    exact ⟨List.exists_mem_of_ne_nil _, fun ⟨_, h⟩ => List.ne_nil_of_mem h⟩
  · simp only [List.all_eq_true, mem_coilsBetween]

theorem adjacent_comm (c d : Nat) : adjacent c d = adjacent d c := by
  have h : adjacent c d = true ↔ adjacent d c = true := by
    simp only [adjacent, Bool.or_eq_true, Bool.and_eq_true, decide_eq_true_eq]; omega
  exact Bool.eq_iff_iff.2 h

theorem between_comm (c d k : Nat) : Between c d k ↔ Between d c k := by unfold Between; omega

/-- Joining is symmetric. -/
theorem joined_comm (u : State) (c d : Nat) : u.joined c d = u.joined d c := by
  refine Bool.eq_iff_iff.2 ?_
  rw [joined_iff, joined_iff]
  unfold JoinedCoils
  simp only [adjacent_comm c d, between_comm c d]

theorem mem_coveredCoils (u : State) (c : Nat) : c ∈ u.coveredCoils ↔ Covered u c := by
  simp only [State.coveredCoils, coilIds, List.mem_filter, List.mem_range, Covered]
  exact and_congr .rfl (by cases (u.coil c).cls <;> simp [Cover.covered])

theorem coveredCoils_ascending (u : State) : u.coveredCoils.Pairwise (· < ·) :=
  List.Pairwise.filter _ List.pairwise_lt_range

theorem coveredCoils_length (u : State) : u.coveredCoils.length ≤ 48 :=
  (List.length_filter_le _ _).trans (by simp [coilIds])

/-- The chain of R36 is growth among the covered coils. -/
theorem linked_iff (u : State) (c d : Nat) :
    Linked u c d ↔ c ∈ u.coveredCoils ∧ ReflTransGen (Grows u.coveredCoils u.joined) c d := by
  unfold Linked
  rw [mem_coveredCoils]
  refine and_congr_right fun hc => ⟨fun h => ?_, fun h => ?_⟩
  · exact h.lift id (fun x y ⟨_, hy, hj⟩ =>
      ⟨(mem_coveredCoils u y).2 hy, by rw [joined_comm]; exact (joined_iff u x y).2 hj⟩)
  · have key : ReflTransGen (fun x y => Covered u x ∧ Covered u y ∧ JoinedCoils u x y) c d ∧ Covered u d := by
      induction h with
      | refl => exact ⟨.refl, hc⟩
      | @tail y z _ h2 ih =>
        have hz := (mem_coveredCoils u z).1 h2.1
        exact ⟨ih.1.tail ⟨ih.2, hz, (joined_iff u y z).1 (by rw [joined_comm]; exact h2.2)⟩, hz⟩
    exact key.1

/-- A linked coil is covered. -/
theorem Linked.covered {u : State} {c d : Nat} (h : Linked u c d) : Covered u d := by
  obtain ⟨hc, hr⟩ := h
  cases hr with
  | refl => exact hc
  | tail _ h => exact h.2.1

/-- R36: the components of a state, by their lowest coil. -/
theorem components_spec (u : State) :
    (∀ f ∈ componentsOf u.joined 48 u.coveredCoils, f ≠ [] ∧ f.Pairwise (· < ·) ∧ ∀ c ∈ f, ∀ d, d ∈ f ↔ Linked u c d) ∧
    (∀ c, Covered u c → ∃ f ∈ componentsOf u.joined 48 u.coveredCoils, c ∈ f) ∧
    (componentsOf u.joined 48 u.coveredCoils).Pairwise (fun f g => ∃ c ∈ f, ∀ d ∈ g, c < d) := by
  obtain ⟨h1, h2, h3⟩ := componentsOf_spec (joined_comm u) 48 (coveredCoils_ascending u) (coveredCoils_length u)
    (coveredCoils_length u)
  refine ⟨fun f hf => ⟨(h1 f hf).1, (h1 f hf).2.1, fun c hc d => ?_⟩,
    fun c hc => h2 c ((mem_coveredCoils u c).2 hc), h3⟩
  rw [((h1 f hf).2.2 c hc).2 d, linked_iff]
  exact ⟨fun h => ⟨((h1 f hf).2.2 c hc).1, h⟩, fun h => h.2⟩

/-- An ascending list has three members exactly when three different numbers lie in it. -/
theorem three_le_length {f : List Nat} (hf : f.Pairwise (· < ·)) :
    3 ≤ f.length ↔ ∃ d e g, d < e ∧ e < g ∧ d ∈ f ∧ e ∈ f ∧ g ∈ f := by
  constructor
  · intro h
    match f, h, hf with
    | d :: e :: g :: _, _, hf =>
      simp only [List.pairwise_cons, List.mem_cons, forall_eq_or_imp] at hf
      exact ⟨d, e, g, hf.1.1, hf.2.1.1, by simp, by simp, by simp⟩
  · rintro ⟨d, e, g, h1, h2, hd, he, hg⟩
    have hn : [d, e, g].Nodup := by simp; omega
    have hs : [d, e, g] ⊆ f := by
      intro x hx; simp only [List.mem_cons, List.not_mem_nil, or_false] at hx; rcases hx with rfl | rfl | rfl <;> assumption
    exact (hn.subperm hs).length_le

/-- R37: a component is no small object exactly when its coils are matched. -/
theorem smallObject_iff {u : State} {f : List Nat} {c : Nat} (hf : f.Pairwise (· < ·))
    (h : ∀ d, d ∈ f ↔ Linked u c d) : u.smallObject f = false ↔ Matched u c := by
  unfold State.smallObject Matched
  rw [Bool.and_eq_false_iff, decide_eq_false_iff_not, Nat.not_le, Nat.lt_iff_add_one_le, three_le_length hf, or_comm]
  refine or_congr ?_ (by simp only [h])
  rw [List.all_eq_false]
  simp only [h, decide_eq_true_eq, ne_eq, decide_not, Bool.not_eq_eq_eq_not, Bool.not_true, Bool.not_eq_false]

/-- R36, R37: the matched components of a state, by their lowest coil. -/
theorem matchedComponents_spec (u : State) :
    (∀ f ∈ u.matchedComponents, f ≠ [] ∧ f.Pairwise (· < ·) ∧ ∀ c ∈ f, ∀ d, d ∈ f ↔ Linked u c d) ∧
    (∀ c, (∃ f ∈ u.matchedComponents, c ∈ f) ↔ Matched u c) ∧
    u.matchedComponents.Pairwise (fun f g => ∃ c ∈ f, ∀ d ∈ g, c < d) := by
  obtain ⟨h1, h2, h3⟩ := components_spec u
  refine ⟨fun f hf => h1 f (List.mem_filter.1 hf).1, fun c => ⟨?_, fun hm => ?_⟩, h3.filter _⟩
  · rintro ⟨f, hf, hc⟩
    obtain ⟨hf1, hf2⟩ := List.mem_filter.1 hf
    exact (smallObject_iff (h1 f hf1).2.1 ((h1 f hf1).2.2 c hc)).1 (by simpa using hf2)
  · have hcov : Covered u c := by
      rcases hm with ⟨_, hl, _⟩ | ⟨_, _, _, _, _, hl, _⟩ <;> exact hl.1
    obtain ⟨f, hf, hc⟩ := h2 c hcov
    refine ⟨f, List.mem_filter.2 ⟨hf, ?_⟩, hc⟩
    simpa using (smallObject_iff (h1 f hf).2.1 ((h1 f hf).2.2 c hc)).2 hm

/-! ### Attribution (R38, R39) -/

theorem distance_eq (c : Nat) (p : Pan) : distance c p = tenthsApart c p := by
  unfold distance tenthsApart absDiff; omega

/-- R39: the nearest of some pans: it is one of them, none is nearer, and none as near stands before it. -/
theorem nearestPan_spec (c : Nat) {pans : List Pan} (hp : pans.Pairwise (fun p q => p.number < q.number)) :
    (nearestPan c pans = none ↔ pans = []) ∧
    ∀ p, nearestPan c pans = some p → p ∈ pans ∧ ∀ q ∈ pans,
      distance c p < distance c q ∨ (distance c p = distance c q ∧ p.number ≤ q.number) := by
  unfold nearestPan
  induction pans using List.reverseRecOn with
  | nil => simp
  | append_singleton l a ih =>
    obtain ⟨hl, -, hla⟩ := List.pairwise_append.1 hp
    obtain ⟨ih1, ih2⟩ := ih hl
    rw [List.foldl_append]
    simp only [List.foldl_cons, List.foldl_nil]
    generalize List.foldl _ none l = best at ih1 ih2 ⊢
    cases best with
    | none =>
      have : l = [] := ih1.1 rfl
      subst this
      simp
    | some b =>
      obtain ⟨hb, hmin⟩ := ih2 b rfl
      have hba : b.number < a.number := hla b hb a (by simp)
      constructor
      · simp only [List.append_eq_nil_iff, List.cons_ne_self, and_false, iff_false]; split <;> simp
      · intro p hp'
        dsimp only at hp'
        by_cases hd : distance c a < distance c b
        · rw [if_pos hd] at hp'; cases hp'
          refine ⟨by simp, fun q hq => ?_⟩
          rcases List.mem_append.1 hq with hq | hq
          · have := hmin q hq; omega
          · rw [List.mem_singleton.1 hq]; omega
        · rw [if_neg hd] at hp'; cases hp'
          refine ⟨by simp [hb], fun q hq => ?_⟩
          rcases List.mem_append.1 hq with hq | hq
          · exact hmin q hq
          · rw [List.mem_singleton.1 hq]; omega

end Sys2Proof.Machine
end

