-- ==== Sys2Proof/WellFormed.lean ====
section
/-! DEFINITION. The commands whose operands name something that can exist: a frame's payload holds at most 64
bytes (10.1), a pan number is 1 to 6, a place in the recall list is 0 to 3. A command that is not well formed
still has a meaning: it finds nothing to act on. -/

namespace Sys2Proof

/-- Whether a command's operands lie in their ranges. -/
def Instr.wellFormed : Instr → Bool
  | .frameArrival _ _ _ payload => payload.length ≤ 64
  | .recallExpiry i => i < 4
  | .boostExpiry n => 1 ≤ n && n ≤ 6
  | _ => true

end Sys2Proof
end

