-- ==== Sys2Proof/Tests/Slice0.lean ====
section
/-! SUPPORT. Tests: the checks of WellFormed, worked examples of the spec on single steps, and for every statement
with hypotheses a concrete state that meets them (`test_meets_<statement>`). -/

namespace Sys2Proof.Tests

-- One theorem after another: each evaluates in the kernel, and side by side they take more memory than the check allows.
set_option Elab.async false

open Sys2Proof.Machine Sys2Proof.Safety

/-! ### WellFormed and Decode -/

theorem test_frame_of_64_is_well_formed : (Instr.frameArrival .panel 1 0 (List.replicate 64 0)).wellFormed = true := by
  decide
theorem test_frame_of_65_is_ill_formed : (Instr.frameArrival .panel 1 0 (List.replicate 65 0)).wellFormed = false := by
  decide
theorem test_recall_place_4_is_ill_formed : (Instr.recallExpiry 4).wellFormed = false := by decide
theorem test_pan_0_is_ill_formed : (Instr.boostExpiry 0).wellFormed = false := by decide
theorem test_pan_7_is_ill_formed : (Instr.boostExpiry 7).wellFormed = false := by decide
theorem test_no_word_spells_a_command : decodeTableWord 8 0x01 = none := rfl

/-! ### States to test on -/

/-- The state after a command. -/
def after (c : Instr) (s : State) : State :=
  match exec c s with
  | .next t => t
  | .fault _ => s
  | .refused _ => s

/-- The frame of a request. -/
def frameOf (req : Request) (payload : List Byte) : Frame := { kind := requestCode req, tag := 7, payload := payload }

/-- The state with a request at the front of a partner's queue, its link PRESENT. -/
def asked (p : Partner) (req : Request) (payload : List Byte) (s : State) : State :=
  s.modLink (partnerLink p) (fun r => { r with state := .present, queue := [frameOf req payload] })

/-- The state with a frame at the front of a board's queue, its link PRESENT. -/
def sent (bd : Board) (f : Frame) (s : State) : State :=
  s.modLink (boardLinkId bd) (fun r => { r with state := .present, queue := [f] })

/-- All four links PRESENT, with a presence timer each. -/
def linked (s : State) : State :=
  let up := fun (r : LinkRec) => { r with state := .present, presence := some (s.now + 400000) }
  (((s.modLink .panel up).modLink .remote up).modLink .genA up).modLink .genB up

/-- STANDBY with L1 VALID and every link in use. -/
def standby : State :=
  let s := linked State.reset
  { s with
    ctl := { s.ctl with mode := .standby, startTimer := none }
    mains := { s.mains with l1 := { s.mains.l1 with sync := .valid, voltage := some 230, reportAge := 0 } } }

/-- A pan on four coils of half A. -/
def pan (n level : Nat) (state : PanState) : Pan :=
  { number := n, state := state, footprint := [0, 1, 12, 13], prevFootprint := [], row := 5, col := 5, lastRow := 5,
    lastCol := 5, level := level, source := .panel, boost := if level = 14 then some 600 else none, boostCounted := 0,
    request := 0, cap := 0, grant := 0, delivered := 0, effective := 0, limited := false, gens := [], starved := false,
    recalled := false }

/-- A device in a mode with these pans in the table, both lines asserted in ACTIVE. -/
def withPans (mode : Mode) (pans : List Pan) : State :=
  { standby with
    ctl := { standby.ctl with mode := mode }
    boardA := { BoardRec.initial with line := mode = .active }
    boardB := { BoardRec.initial with line := mode = .active }
    pans := pans
    levels := { standby.levels with demand := pans.map (fun p => p.number) } }

/-- ACTIVE with pan 1 HEATING at level 5. -/
def cooking : State := withPans .active [pan 1 5 .heating]

/-- A request is ready in the state that was asked. -/
theorem ready_asked (p : Partner) (req : Request) (payload : List Byte) (s : State) (h1 : s.resetting = none)
    (h2 : s.softReset = false) (h3 : p = .remote → requestFromRemote req = true)
    (h4 : payload.length = requestLength req) :
    ReadyFor (asked p req payload s) p req (frameOf req payload) [] := by
  refine ⟨⟨by simpa [asked] using h1, by simpa [asked] using h2, ?_⟩, rfl, h3, h4⟩
  cases p <;> rfl

/-- A board's frame is ready in the state it was sent in. -/
theorem ready_sent (bd : Board) (f : Frame) (s : State) (h : s.resetting = none) : BoardReady (sent bd f s) bd f [] := by
  refine ⟨by simpa [sent] using h, ?_, ?_⟩ <;> cases bd <;> rfl

/-- A phase whose edge timer has not run out. -/
theorem in_time {s : State} {ph : Phase} {at_ d : Nat} (h : (s.phase ph).edgeTimer = some d) (hd : at_ ≤ d) :
    EdgeInTime s ph at_ := by intro e he; rw [h] at he; cases he; exact hd

/-- A phase's fields of sync, for the tests of edges. -/
def phaseAt (sync : Sync) (valid out : Nat) : PhaseRec :=
  { PhaseRec.initial with sync := sync, validCount := valid, outCount := out, prevEdge := some 0, edgeTimer := some 25000 }

/-- A state with L1 so, in a frame so. -/
def timed (mode : Mode) (l1 : PhaseRec) (f : FrameState) (index : Nat) : State :=
  { standby with
    ctl := { standby.ctl with mode := mode }
    mains :=
      { standby.mains with
        l1 := l1
        frame := { state := f, index := index, freeTimer := some 160000, trackTimer := some 80000 } } }

/-! ### Worked examples of the spec, one step each -/

/-- R3, Table 1-2: the eighth period in range makes a phase VALID; 750 and 1100 are in range, 749 and 1101 not. -/
theorem test_edge_counts_to_valid :
    (after (.zeroCrossEdge .l1 7500) (timed .start (phaseAt .acquiring 7 0) .free 0)).mains.l1.sync = .valid ∧
    (after (.zeroCrossEdge .l1 11009) (timed .start (phaseAt .acquiring 6 0) .free 0)).mains.l1.validCount = 7 ∧
    (after (.zeroCrossEdge .l1 7499) (timed .start (phaseAt .acquiring 6 0) .free 0)).mains.l1.validCount = 0 ∧
    (after (.zeroCrossEdge .l1 11010) (timed .start (phaseAt .acquiring 6 0) .free 0)).mains.l1.validCount = 0 := by
  decide +kernel
/-- R4: the third period out of range in a row loses sync. -/
theorem test_third_bad_edge_loses_sync :
    (after (.zeroCrossEdge .l1 5000) (timed .standby (phaseAt .valid 8 2) .free 0)).mains.l1.sync = .acquiring ∧
    (after (.zeroCrossEdge .l1 5000) (timed .standby (phaseAt .valid 8 1) .free 0)).mains.l1.sync = .valid := by
  decide +kernel
/-- R13: 16 A at 230 V give 3680 W, and 277 V give nothing. -/
theorem test_frame_start_budget :
    (startPhase Settings.default { phaseAt .valid 8 0 with voltage := some 230, reportAge := 0 }).budget = 3680 ∧
    (startPhase Settings.default { phaseAt .valid 8 0 with voltage := some 276, reportAge := 0 }).budget = 4416 ∧
    (startPhase Settings.default { phaseAt .valid 8 0 with voltage := some 277, reportAge := 0 }).cause = .voltageRange ∧
    (startPhase Settings.default { phaseAt .valid 8 0 with voltage := some 230, reportAge := 2 }).cause = .stale := by
  decide +kernel
/-- R132, Table 7-8: five slots at position 0 stand in half-cycles 3, 6, 9, 12 and 15. -/
theorem test_pattern_of_five : (List.range 16).filter (slotOn 0 5) = [3, 6, 9, 12, 15] := by decide +kernel
/-- 10.1: the CRC-8 of a Hello is checked at the arrival of its last byte. -/
theorem test_hello_arrives_byte_by_byte :
    ((frameBytes 0x01 7 []).foldl (fun s b => after (.byteReceived .panel b) s) State.reset).links.panel.link.state =
      .present := by decide +kernel
theorem test_spoiled_crc_is_discarded :
    (([0xC5, 0x01, 7, 0, 0x00] : List Byte).foldl (fun s b => after (.byteReceived .panel b) s)
      State.reset).links.panel.link.state = .absent := by decide +kernel
/-- R165: a Hello after POWER_ON with the defaults loaded: STARTED captured, start record 4. -/
theorem test_hello_answer :
    (after (.hello .panel) (asked .panel .hello [] State.reset)).links.panel.produced =
      [.response 7 [0, 0, 1, 4]] := by decide +kernel
/-- R60, R61: a level above 0 makes a PLACED pan HEATING and moves it to the front of the demand order. -/
theorem test_set_level_heats :
    (after (.setLevel .panel) (asked .panel .setLevel [2, 9] (withPans .active [pan 1 5 .heating, pan 2 0 .placed]))).pans.map
      (fun p => (p.level, p.state)) = [(5, .heating), (9, .heating)] ∧
    (after (.setLevel .panel) (asked .panel .setLevel [2, 9]
      (withPans .active [pan 1 5 .heating, pan 2 0 .placed]))).levels.demand = [2, 1] := by decide +kernel
/-- R59: level 15 is refused OUT_OF_RANGE and changes no pan. -/
theorem test_set_level_15_refused :
    (after (.setLevel .panel) (asked .panel .setLevel [1, 15] cooking)).links.panel.produced = [.response 7 [4]] ∧
    (after (.setLevel .panel) (asked .panel .setLevel [1, 15] cooking)).pans = cooking.pans := by decide +kernel
/-- R62: under REDUCE_ONLY the remote lowers a level and does not raise it. -/
theorem test_remote_reduces_only :
    (after (.setLevel .remote) (asked .remote .setLevel [1, 4]
      { cooking with levels := { cooking.levels with permit := .reduceOnly } })).pans.map (fun p => p.level) = [4] ∧
    (after (.setLevel .remote) (asked .remote .setLevel [1, 6]
      { cooking with levels := { cooking.levels with permit := .reduceOnly } })).links.remote.produced =
      [.response 7 [5]] := by decide +kernel
/-- R140, R105: Activate asserts both lines and its response goes before the notice of MODE_CHANGED. -/
theorem test_activate_asserts_lines :
    (after (.activate .panel) (asked .panel .activate [] standby)).boardA.line = true ∧
    (after (.activate .panel) (asked .panel .activate [] standby)).links.panel.produced =
      [.response 7 [0], .notice] := by decide +kernel
/-- R143: Deactivate puts every pan at level 0 and both lines down. -/
theorem test_deactivate_rests :
    (after (.deactivate .panel) (asked .panel .deactivate [] cooking)).pans.map (fun p => (p.level, p.state)) =
      [(0, .placed)] ∧
    (after (.deactivate .panel) (asked .panel .deactivate [] cooking)).boardB.lineDown = some 5000 := by decide +kernel
/-- R175: a write of H = 100 with T_p = 120 stores 100; T_f = 400 holds its dependency. -/
theorem test_write_setting_adjusts :
    (after (.writeSetting .panel) (asked .panel .writeSetting [6, 0, 150] standby)).store.settings.hyst = 100 ∧
    (after (.writeSetting .panel) (asked .panel .writeSetting [4, 1, 44] standby)).store.settings.tp = 300 ∧
    (after (.writeSetting .panel) (asked .panel .writeSetting [7, 0, 215] standby)).store.settings.tCut = 225 := by
  decide +kernel
/-- R178: with the area locked a Set Exclusion is refused NOT_PERMITTED. -/
theorem test_locked_area_refuses :
    (after (.setExclusion .panel) (asked .panel .setExclusion [47]
      { standby with store := { standby.store with lock := true } })).links.panel.produced = [.response 7 [5]] ∧
    (after (.setExclusion .panel) (asked .panel .setExclusion [47] standby)).store.exclusion[47]? = some true := by
  decide +kernel
/-- R177: the store holds the settings as they stood when it was taken, though a write comes before its completion. -/
theorem test_store_keeps_its_contents :
    (after .storeComplete (({ · with store := { standby.store with
        storing := some { contents := { settings := Settings.default, baselines := [] }, latest := 120000 }
        settings := { Settings.default with hyst := 50 } } }) standby)).store.image.contents.settings.hyst = 30 ∧
    (after (.storeSettings .panel) (asked .panel .storeSettings [] standby)).store.storing.isSome = true := by
  decide +kernel
/-- R88: a readback that disagrees with the image latched before enters HALT; the target is latched all the same. -/
theorem test_bad_readback_halts :
    (after (.chainTransferComplete 5) { standby with
      route := { standby.route with stage := .shifting, compare := true, target := [some 0] } }).ctl.haltCause =
      .routeReadback ∧
    ((after (.chainTransferComplete 5) { standby with
      route := { standby.route with stage := .shifting, compare := true, target := [some 0] } }).coil 0).latched =
      some 0 := by decide +kernel
/-- R102: a stop that is not confirmed takes the board's line down. -/
theorem test_unconfirmed_stop_takes_line_down :
    (after (.stopTimerExpiry 2) (cooking.modGen 2 (fun x => { x with stopTimer := some 40000 }))).boardA.line = false ∧
    ((after (.stopTimerExpiry 2) (cooking.modGen 2 (fun x => { x with stopTimer := some 40000 }))).gen 2).unconfirmed =
      true := by decide +kernel
/-- R177, R147: a Soft Reset taken during a store cuts it off, and a completion then finds no store in flight. -/
theorem test_soft_reset_cuts_store_off :
    (after (.storeSettings .panel) (asked .panel .storeSettings [] standby)).store.storing.isSome = true ∧
    (after (.softReset .panel) (asked .panel .softReset [] (after (.storeSettings .panel)
      (asked .panel .storeSettings [] standby)))).store.storing = none ∧
    (after .storeComplete (after (.softReset .panel) (asked .panel .softReset [] (after (.storeSettings .panel)
      (asked .panel .storeSettings [] standby))))).store.storing = none := by decide +kernel
/-- R69: a boost that has counted out leaves its pan at level 13. -/
theorem test_boost_ends_at_13 :
    (after (.boostExpiry 1) (withPans .active [pan 1 14 .heating])).pans.map (fun p => (p.level, p.boost)) =
      [(13, none)] ∧
    (after (.boostExpiry 1) (withPans .active [pan 1 14 .heating])).now = 600000000 := by decide +kernel
/-- R94, R110: two silent periods lose a board, and its generators with it. -/
theorem test_silent_board_is_lost :
    ((after (.boardPresenceExpiry .a) (after (.boardPresenceExpiry .a) cooking)).gen 3).state = .lost ∧
    (after (.boardPresenceExpiry .a) (after (.boardPresenceExpiry .a) cooking)).now = 800000 := by decide +kernel
/-- R151: a survey does not start while a pan stands on the surface. -/
theorem test_survey_needs_a_bare_surface :
    (after (.surveyStart .panel) (asked .panel .surveyStart [] (withPans .standby [pan 1 0 .placed]))).ctl.mode =
      .standby ∧
    (after (.surveyStart .panel) (asked .panel .surveyStart [] standby)).ctl.mode = .survey := by decide +kernel

/-! ### Worked examples of operations -/

/-- 3.3.1: the coils 14 and 16 are joined across the excluded coil 15, with the coils next to them. -/
theorem test_components_bridge_an_excluded_coil :
    (State.reset.mapCoils (fun c k =>
      if c = 15 then { k with excluded := true } else if c = 14 ∨ c = 16 then { k with cls := .full } else k)).matchedComponents =
      [[14, 16]] := by decide +kernel
/-- R120: a base cap of 2100 W at 186, 200 and 219 °C. -/
theorem test_thermal_cap : [186, 200, 219].map (thermalCap Settings.default 2100) = [1785, 1050, 52] := by decide

/-- 7.14: pans 2 and 1 on board A, with the generators A0, A1 and A2 of Tables 7-5 and 7-6. -/
def worked : State :=
  let base := withPans .active
    [{ pan 1 11 .heating with footprint := [28, 29, 40, 41] },
     { pan 2 14 .heating with footprint := [0, 1, 2, 12, 13, 14] }]
  let s := base.mapCoils (fun c k =>
    if c ∈ [0, 1, 2] then { k with cls := .full, temp := some 100, latched := some 0 }
    else if c ∈ [12, 13, 14] then { k with cls := .full, temp := some 100, latched := some 1 }
    else if c ∈ [28, 29, 40] then { k with cls := .full, temp := some 186, latched := some 2 }
    else if c = 41 then { k with cls := .partly, temp := some 100, latched := some 2 } else k)
  let gen := fun (n : Nat) (coils : List Nat) (fMin pFull freq : Nat) (x : Gen) =>
    { x with state := .armed, pan := some n, coils := coils, fMin := some fMin, pFull := some pFull,
             pFullFreq := some freq }
  { ((s.modGen 0 (gen 2 [0, 1, 2] 250 1840 262)).modGen 1 (gen 2 [12, 13, 14] 262 1760 262)).modGen 2
      (gen 1 [28, 29, 40, 41] 241 1920 241) with
    levels := { s.levels with demand := [2, 1] }
    mains := { s.mains with l1 := { s.mains.l1 with budget := 3680 } } }

/-- Table 7-7: the first frame; pan 1 is granted 680 W and delivers 600 W, pan 2 delivers 2925 W. -/
theorem test_worked_case_first_frame :
    (worked.shareComputation.gens.take 3).map (fun x => (x.share, x.slots, x.residue, x.ordered)) =
      [(1500, 13, 80, 262), (1500, 13, 1120, 262), (680, 5, 1280, 241)] ∧
    worked.shareComputation.pans.map (fun p => (p.request, p.grant, p.delivered, p.effective)) =
      [(1550, 680, 600, 7), (3000, 3000, 2925, 14)] ∧
    worked.shareComputation.alloc.l1.planned = 56400 := by decide +kernel
/-- The same with the residues that the first frame carries into the second. -/
def workedAgain : State :=
  worked.mapGens (fun g x => { x with state := .running, residue := ([80, 1120, 1280][g]?).getD 0 })

/-- Table 7-8: in the second frame the phase check takes one slot from A2. -/
theorem test_worked_case_second_frame :
    (workedAgain.shareComputation.gens.take 3).map (fun x => (x.slots, x.residue)) = [(13, 160), (14, 480), (5, 1919)] ∧
    workedAgain.shareComputation.alloc.l1.removed = 1 ∧
    workedAgain.shareComputation.alloc.l1.planned = 58160 := by decide +kernel

/-! ### States that meet the statements' hypotheses -/

/-- A state in a reset. -/
def inReset : State := { standby with ctl := { standby.ctl with mode := .start }, resetting := some { cause := .resetLine, halted := true } }

theorem test_meets_StepTakesFrontCommand : (State.reset.withPending [.powerOn]).pending = .powerOn :: [] := rfl
theorem test_meets_IdleStepTakesDueTimerOrTicks :
    State.reset.pending = [] ∧ State.reset.nextDue = none ∧
    (State.reset.elapse 5000).pending = [] ∧ (State.reset.elapse 5000).nextDue = some (.lineDownTimerExpiry .a) ∧
    (State.reset.elapse 4999).nextDue = none := by decide +kernel
theorem test_meets_OnlyResetsActDuringReset :
    inReset.resetting = some { cause := .resetLine, halted := true } ∧ Instr.powerOn ≠ .resetEnd := by decide +kernel
/-- ACTIVE with a Soft Reset taken. -/
def resetTaken : State := after (.softReset .panel) (asked .panel .softReset [] cooking)

/-- A reset from ACTIVE, one whose response is gone, and one whose response waits, is being sent and has been sent. -/
theorem test_meets_ResetsBegin :
    cooking.resetting = none ∧
    ({ cooking with softReset := true } : State).resetting = none ∧
    (∀ o ∈ ({ cooking with softReset := true } : State).links.panel.produced, o.isResetResponse = false) ∧
    ({ cooking with softReset := true } : State).links.panel.sending = none ∧
    resetTaken.links.panel.produced = [.resetResponse 7] ∧ (after .softResetStart resetTaken).resetting = none ∧
    (after (.sendFrame .panel) resetTaken).links.panel.sending = some (.resetResponse 7) ∧
    (after .softResetStart (after (.sendFrame .panel) resetTaken)).resetting = none ∧
    (after .softResetStart (after (.sendFrame .panel) (after (.sendFrame .panel) resetTaken))).resetting =
      some { cause := .softReset, halted := false } := by
  decide +kernel
theorem test_meets_ResetEndLoadsAndStarts :
    inReset.resetting = some { cause := .resetLine, halted := true } ∧ inReset.coils.length = 48 ∧
    inReset.survey.state = .idle := by decide +kernel
/-- Edges in time at the last microsecond of the edge timer, an edge one microsecond beyond it, and the four periods
at the ends of the range, in ACQUIRING and in VALID. -/
theorem test_meets_EdgesAndTimersMoveSyncState :
    (timed .start (phaseAt .acquiring 7 0) .free 0).resetting = none ∧
    EdgeInTime (timed .start (phaseAt .acquiring 7 0) .free 0) .l1 25000 ∧
    ((timed .start (phaseAt .acquiring 7 0) .free 0).phase .l1).edgeTimer = some 25000 ∧ 25000 < 0 + 25001 ∧
    (phaseAt .acquiring 7 0).prevEdge = some 0 ∧ (phaseAt .absent 0 0).sync = .absent ∧
    750 = (7500 - 0) / 10 ∧ 1100 = (11009 - 0) / 10 ∧ 749 = (7499 - 0) / 10 ∧ 1101 = (11010 - 0) / 10 ∧
    (phaseAt .valid 8 1).outCount + 1 < 3 ∧ 3 ≤ (phaseAt .valid 8 2).outCount + 1 ∧
    (∀ d, (State.reset.phase .l2).edgeTimer = some d → 25 ≤ d) := by
  refine ⟨rfl, in_time (d := 25000) rfl (by decide), rfl, by decide, rfl, rfl, by decide, by decide, by decide,
    by decide, by decide, by decide, ?_⟩
  intro d h; cases h
/-- The third bad edge, the timer, and an edge later than the timer; in a synced frame and in a free one. -/
theorem test_meets_LossOfL1StartsFreeFrame :
    (timed .active (phaseAt .valid 8 2) .synced 3).resetting = none ∧
    EdgeInTime (timed .active (phaseAt .valid 8 2) .synced 3) .l1 (0 + 5000) ∧
    (timed .active (phaseAt .valid 8 2) .synced 3).mains.l1.sync = .valid ∧
    (edgeSync 5000 (phaseAt .valid 8 2)).sync ≠ .valid ∧ (absentSync (phaseAt .valid 8 2)).sync ≠ .valid ∧
    (timed .active (phaseAt .valid 8 2) .synced 3).mains.l1.edgeTimer = some 25000 ∧ 25000 < 0 + 25001 ∧
    (edgeSync 25001 (absentSync (phaseAt .valid 8 2))).sync ≠ .valid ∧
    (timed .active (phaseAt .valid 8 2) .synced 3).mains.frame.state ≠ .free ∧
    (timed .active (phaseAt .valid 8 2) .free 0).mains.frame.state = .free := by
  refine ⟨rfl, in_time (d := 25000) rfl (by decide), rfl, by decide, by decide, rfl, by decide, by decide,
    by decide, rfl⟩
/-- Each frame state, the indexes 6, 7, 14 and 15, and an edge that makes L1 VALID in START. -/
theorem test_meets_FramesFollowEachOther :
    (timed .standby (phaseAt .valid 8 0) .free 0).mains.frame.freeTimer = some 160000 ∧
    (timed .standby (phaseAt .valid 8 0) .free 0).mains.l1.sync = .valid ∧
    (timed .standby (phaseAt .acquiring 8 0) .free 0).mains.l1.sync ≠ .valid ∧
    EdgeInTime (timed .standby (phaseAt .valid 8 0) .synced 15) .l1 (0 + 10000) ∧
    (edgeSync 10000 (phaseAt .valid 8 0)).sync = .valid ∧ (edgeSync 10000 (phaseAt .acquiring 6 0)).sync ≠ .valid ∧
    (edgeSync 10000 (phaseAt .acquiring 7 0)).sync = .valid ∧
    (after (.zeroCrossEdge .l1 10000) (timed .start (phaseAt .acquiring 7 0) .free 0)).ctl.mode = .standby ∧
    (after (.zeroCrossEdge .l1 10000) (timed .standby (phaseAt .valid 8 0) .handover 0)).mains.frame.state = .synced ∧
    [6, 7, 14, 15].map (fun k =>
      (after (.zeroCrossEdge .l1 10000) (timed .standby (phaseAt .valid 8 0) .synced k)).mains.frame.index) =
      [7, 8, 15, 0] :=
  ⟨rfl, rfl, by decide, in_time (d := 25000) rfl (by decide), by decide, by decide, by decide, by decide +kernel,
    by decide +kernel, by decide +kernel⟩
theorem test_meets_FrameStartSetsBudgets :
    0 < (({ standby with mains := { standby.mains with l1 :=
      { standby.mains.l1 with budget := 3680, reportAge := 2 } } } : State).phase .l1).budget ∧
    (({ standby with mains := { standby.mains with l1 :=
      { standby.mains.l1 with budget := 3680, reportAge := 2 } } } : State).frameStart.phase .l1).budget = 0 ∧
    holds (standby.partner .remote).enabled .phaseFault = true ∧
    standby.store.settings.showroom = false ∧ standby.survey.state = .idle := by decide +kernel
theorem test_meets_TrackingTimerOpensTrackingPoint :
    State.reset.resetting = none ∧ State.reset.mains.frame.trackTimer = some 80000 ∧ State.reset.coils.length = 48 ∧
    TableSound cooking ∧ RoutesSound cooking ∧ cooking.mains.frame.trackTimer = some 80000 := by
  unfold TableSound PanSound RoutesSound ImageSound; decide +kernel
/-- A full window and an empty one, each class, and the temperatures at the ends of the hot mark's ranges. -/
theorem test_meets_ReadingsMoveCoilRecords :
    ({ Coil.initial with window := [60, 70, 80, 1023] }).window.length ≤ 2 ^ Settings.default.avgExp ∧
    (∀ v ∈ ({ Coil.initial with window := [60, 70, 80, 1023] }).window, v ≤ 1023) ∧
    Coil.initial.window.length ≤ 2 ^ Settings.default.avgExp ∧ Coil.initial.cls = .none ∧
    ({ Coil.initial with cls := .partly }).cls = .partly ∧ ({ Coil.initial with cls := .full }).cls = .full ∧
    Settings.default.tCut ≤ 220 ∧ 209 + 10 < Settings.default.tCut ∧ 219 < Settings.default.tCut ∧
    Settings.default.tCut ≤ 210 + 10 := by decide
/-- A generator ARMED, RUNNING and at rest, and a pan that heats and one that does not. -/
theorem test_meets_SharesKeepTheirBounds :
    (panNumbers cooking).Pairwise (· < ·) ∧ cooking.pans ≠ [] ∧ cooking.gens.length = 8 ∧
    ((cooking.modGen 0 (fun x => { x with state := .armed })).gen 0).state = .armed ∧
    ((cooking.modGen 0 (fun x => { x with state := .running })).gen 0).state = .running ∧
    (cooking.gen 0).state = .idle ∧ cooking.ctl.mode = .active ∧ cooking.levels.pause = false ∧
    (pan 1 5 .heating).state = .heating ∧ (pan 1 0 .placed).state ≠ .heating := by decide +kernel
theorem test_meets_SharesKeepTheirBounds_worked : TableSound worked ∧ worked.gens.length = 8 := by
  unfold TableSound PanSound; decide +kernel
theorem test_meets_PatternsHoldTheirSlots : 3 < 4 ∧ 16 ≤ 16 := by decide
theorem test_meets_PhaseBudgetsKept : BudgetsKept cooking ∧ cooking.pending = [] := by
  unfold BudgetsKept; decide +kernel
theorem test_meets_ResiduesStayBelowOneSlot :
    ResiduesKept (cooking.modGen 0 (fun x => { x with pFull := some 1840, residue := 1839 })) := by
  unfold ResiduesKept; decide +kernel

/-- An operation in the chain whose target gives coil 0 to generator 0. -/
def shifting : State :=
  { standby with route := { standby.route with stage := .shifting, compare := true, target := [some 0], changed := [0] } }

theorem test_meets_TransfersLatchTheChain :
    shifting.resetting = none ∧ shifting.coils.length = 48 ∧ shifting.gens.length = 8 ∧ shifting.route.stage = .shifting ∧
    (shifting.route.compare = true → chainWord shifting.latchedImage = chainWord shifting.latchedImage) ∧
    ({ shifting with route := { shifting.route with stage := .halted, haltShift := .shifting } } : State).route.haltShift =
      .shifting := by decide +kernel

/-- A part 1 whose first generator is driving. -/
def driving : List Byte := [1] ++ List.replicate 24 30 ++ [0, 230] ++ [128, 1, 44, 7, 48, 1, 44] ++ List.replicate 21 0

/-- A board whose line is settled, with a part 0 held and this part 1 in its queue. -/
def reporting (payload : List Byte) (s : State) : State :=
  (sent .a { kind := kindReport, tag := 3, payload := payload } s).modBoard .a (fun r =>
    { r with line := false, settled := true, held := some (3, List.replicate 24 60) })

theorem ready_reporting (payload : List Byte) (s : State) (h : s.resetting = none) (hl : payload.length = 55)
    (h0 : byteAt payload 0 = 1) :
    ReportReady (reporting payload s) .a { kind := kindReport, tag := 3, payload := payload } []
      (joinReport (List.replicate 24 60) payload) :=
  ⟨⟨by simpa [reporting, sent] using h, rfl, rfl⟩, rfl, hl, h0, List.replicate 24 60, rfl, rfl⟩

/-- A readback mismatch found while a survey runs. -/
theorem test_meets_HaltIsEntered_survey :
    let s := { shifting with ctl := { shifting.ctl with mode := .survey },
                             survey := { shifting.survey with state := .running, count := 5 } }
    s.survey.state ≠ .idle ∧ s.route.stage = .shifting ∧ s.route.compare = true ∧ s.ctl.mode = .survey ∧
    (5 : ChainWord) ≠ chainWord s.latchedImage ∧ (after (.chainTransferComplete 5) s).survey.last = .abandoned := by
  decide +kernel
theorem test_meets_HaltIsEntered :
    shifting.resetting = none ∧ shifting.ctl.mode ≠ .halt ∧ shifting.route.stage ≠ .halted ∧
    shifting.route.compare = true ∧ (5 : ChainWord) ≠ chainWord shifting.latchedImage ∧
    (reporting driving standby).resetting = none ∧ (reporting driving standby).ctl.mode ≠ .halt ∧
    (reporting driving standby).route.stage ≠ .halted ∧
    ReportReady (reporting driving standby) .a { kind := kindReport, tag := 3, payload := driving } []
      (joinReport (List.replicate 24 60) driving) ∧
    DrivesAfterStop (reporting driving standby) .a (joinReport (List.replicate 24 60) driving) := by
  refine ⟨rfl, by decide, by decide, rfl, by decide +kernel, rfl, by decide, by decide,
    ready_reporting driving standby rfl rfl (by decide +kernel), ?_⟩
  unfold DrivesAfterStop; decide +kernel
/-- The end of a settle, coil 0 to be given to the RUNNING generator 0. -/
def settling : State :=
  let s := (cooking.modGen 0 (fun x => { x with state := .running })).mapCoils (fun c k =>
    if c = 0 then { k with desired := some 0 } else k)
  { s with route := { s.route with stage := .settling, settleTimer := some 12000 } }

/-- The operation that starts then, waiting for the generator's stop. -/
def operating : State := after .settleTimerExpiry settling

/-- A settle with the images alike, and one with a RUNNING generator whose coil set is to change. -/
theorem test_meets_SettleEndsTheOperation :
    ({ standby with route := { standby.route with settleTimer := some 12000 } } : State).route.settleTimer = some 12000 ∧
    standby.resetting = none ∧ standby.gens.length = 8 ∧ standby.desiredImage = standby.latchedImage ∧
    settling.route.settleTimer = some 12000 ∧ settling.desiredImage ≠ settling.latchedImage ∧
    operating.route.changed = [0] ∧ operating.route.waitSet = [0] ∧ (operating.gen 0).state = .stopping := by
  decide +kernel
/-- The laws hold at reset and in an operation that waits for a stop. -/
theorem test_meets_RouteImagesStaySound : ModesAgree State.reset ∧ RoutesSound State.reset := by
  unfold ModesAgree RoutesSound ImageSound; decide +kernel
theorem test_meets_RouteImagesStaySound_operating : ModesAgree operating ∧ RoutesSound operating := by
  unfold ModesAgree RoutesSound ImageSound; decide +kernel
theorem test_meets_RouteImagesStaySound_chain : ChainQuiet State.reset ∧ ChainQuiet operating := by
  unfold ChainQuiet
  refine ⟨⟨?_, ?_, ?_, ?_, ?_⟩, ⟨?_, ?_, ?_, ?_, ?_⟩⟩ <;> first | (intro bd; cases bd <;> decide +kernel) | decide +kernel

/-- Generator 0 waits for a stop confirm. -/
def stopping : State :=
  cooking.modGen 0 (fun x => { x with state := .stopping, stopPending := true, stopTimer := some 40000 })

/-- A confirm of one generator and of all four on a stuck board, an all-stopped hello, and one of a board that returns. -/
theorem test_meets_StopConfirmStopsGenerators :
    BoardReady (sent .a { kind := kindStopConfirm, tag := 0, payload := [1] } stopping) .a
      { kind := kindStopConfirm, tag := 0, payload := [1] } [] ∧ stopping.gens.length = 8 ∧
    (stopping.gen 0).stopPending = true ∧ (byteAt [1] 0).testBit (positionOf 0) = true ∧
    (stopping.gen 1).stopPending = false ∧
    (∀ g ∈ gensOf .a, (byteAt [15] 0).testBit (positionOf g) = true) ∧
    ((stopping.modBoard .a (fun r => { r with line := false, stuck := true })).board .a).stuck = true ∧
    BoardReady (sent .a { kind := kindHello, tag := 0, payload := [1], returned := true } stopping) .a
      { kind := kindHello, tag := 0, payload := [1], returned := true } [] ∧
    (frameOf .hello [1]).returned = false ∧ byteAt [1] 0 % 2 = 1 ∧ byteAt [0] 0 % 2 = 0 :=
  ⟨ready_sent _ _ _ rfl, by decide +kernel, by decide +kernel, by decide, by decide +kernel, by decide,
    by decide +kernel, ready_sent _ _ _ rfl, rfl, by decide, by decide⟩
/-- R101, R104, R105: a confirm of all four clears the stuck flag and asserts the line again in ACTIVE. -/
theorem test_confirm_of_all_four_clears_stuck :
    (after (.stopConfirm .a) (sent .a { kind := kindStopConfirm, tag := 0, payload := [15] }
      (stopping.modBoard .a (fun r => { r with line := false, stuck := true })))).boardA.stuck = false ∧
    (after (.stopConfirm .a) (sent .a { kind := kindStopConfirm, tag := 0, payload := [15] }
      (stopping.modBoard .a (fun r => { r with line := false, stuck := true })))).boardA.line = true := by
  decide +kernel
theorem test_meets_ReportPartsAreJoined :
    BoardReady (sent .a { kind := kindReport, tag := 3, payload := List.replicate 49 0 } standby) .a
      { kind := kindReport, tag := 3, payload := List.replicate 49 0 } [] ∧
    byteAt (List.replicate 49 0) 0 = 0 ∧ (List.replicate 49 (0 : Byte)).length = 49 ∧
    BoardReady (sent .a { kind := kindReport, tag := 3, payload := driving } standby) .a
      { kind := kindReport, tag := 3, payload := driving } [] ∧ byteAt driving 0 = 1 ∧ driving.length = 55 ∧
    (∀ samples, (standby.board .a).held ≠ some (3, samples)) ∧
    ¬(byteAt [2] 0 = 0 ∧ ([2] : List Byte).length = 49) ∧ ¬(byteAt [2] 0 = 1 ∧ ([2] : List Byte).length = 55) :=
  ⟨ready_sent _ _ _ rfl, by decide, by decide, ready_sent _ _ _ rfl, by decide +kernel, by decide +kernel,
    (fun _ h => by cases h), by decide, by decide⟩

/-- A part 1 in which generator 0 has a fault, 1 has none, at 230 V. -/
def faulting : List Byte := [1] ++ List.replicate 24 30 ++ [0, 230] ++ [1, 1, 44, 7, 48, 1, 44] ++ List.replicate 21 0

/-- Generator 0 RUNNING, 1 FAULTED with its retry due, 2 IDLE. -/
def beforeReport : State :=
  (cooking.modGen 0 (fun x => { x with state := .running })).modGen 1 (fun x =>
    { x with state := .faulted, fault := .overcurrent, retries := 2, retryTimer := .expired })

theorem test_meets_ReportIsTaken :
    ReportReady (reporting faulting beforeReport) .a { kind := kindReport, tag := 3, payload := faulting } []
      (joinReport (List.replicate 24 60) faulting) ∧
    ¬DrivesAfterStop (reporting faulting beforeReport) .a (joinReport (List.replicate 24 60) faulting) ∧
    beforeReport.coils.length = 48 ∧ beforeReport.gens.length = 8 ∧
    0 < (joinReport (List.replicate 24 60) faulting).voltage ∧
    ((joinReport (List.replicate 24 60) faulting).gens[0]?).map (fun x => x.fault) = some .overcurrent ∧
    (beforeReport.gen 0).state = .running ∧
    ((joinReport (List.replicate 24 60) faulting).gens[1]?).map (fun x => x.fault) = some .none ∧
    (beforeReport.gen 1).fault ≠ .stuck ∧ (beforeReport.gen 1).retries < 3 ∧
    (beforeReport.gen 1).retryTimer = .expired ∧ (beforeReport.gen 2).state ≠ .faulted ∧
    MayRetry (beforeReport.gen 1) ∧ ¬MayRetry (beforeReport.gen 2) ∧ (cooking.gen 0).state = .idle := by
  refine ⟨ready_reporting faulting beforeReport rfl rfl (by decide +kernel), ?_, ?_⟩
  · unfold DrivesAfterStop; decide +kernel
  · unfold MayRetry; decide +kernel
/-- R106, R107: a fault of an IDLE generator is disregarded, and a fault of a RUNNING one is captured. -/
theorem test_reported_faults :
    ((after (.report .a) (reporting faulting (cooking.modGen 0 (fun x => { x with state := .idle })))).gen 0).state = .idle ∧
    ((after (.report .a) (reporting faulting beforeReport)).gen 0).fault = .overcurrent ∧
    holds ((after (.report .a) (reporting faulting beforeReport)).partner .panel).captured .genFault = true := by
  decide +kernel
/-- A part 1 with the values of Table 6-2 at and beyond their limits: temperatures 250, 251, 254 and 255, 301 V, the
fault codes 3, 4, 5 and NONE with DRIVING, f_min 0, 1, 750 and 751, P_full 4000, 4001, 0xFFFF and 0. -/
def atLimits : List Byte :=
  [1, 250, 251, 254, 255] ++ List.replicate 20 30 ++ [1, 45] ++ [3, 0, 0, 15, 160, 0, 199] ++
    [4, 0, 1, 15, 161, 0, 200] ++ [5, 2, 238, 255, 255, 1, 0] ++ [128, 2, 239, 0, 0, 2, 239]
/-- Table 6-2: what the joined report gives for them. -/
theorem test_reported_values_are_limited :
    (joinReport [] atLimits).temps.take 5 = [some 250, some 250, some 250, none, some 30] ∧
    (joinReport [] atLimits).voltage = 300 ∧
    (joinReport [] atLimits).gens =
      [{ driving := false, fault := .noLoad, fMin := none, pFull := some 4000, pFullFreq := some 200 },
       { driving := false, fault := .supply, fMin := some 200, pFull := some 4000, pFullFreq := some 200 },
       { driving := false, fault := .supply, fMin := some 750, pFull := none, pFullFreq := none },
       { driving := true, fault := .none, fMin := some 750, pFull := some 0, pFullFreq := some 750 }] := by decide
theorem test_meets_StopAndRetryTimersExpire :
    stopping.resetting = none ∧ stopping.gens.length = 8 ∧ (stopping.gen 0).stopTimer = some 40000 ∧
    ((stopping.modGen 7 (fun x => { x with retryTimer := .running 2000000 })).gen 7).retryTimer = .running 2000000 := by
  decide +kernel
/-- HALT with board A's line on its way down, and board B's settled or not. -/
def halting (settled : Bool) : State :=
  { withPans .halt [] with
    boardA := { BoardRec.initial with lineDown := some 5000 }
    boardB := { BoardRec.initial with settled := settled }
    route := { Route.initial with stage := .halted, haltShift := .waiting } }

/-- An unconfirmed generator, a FAULTED one to be freed, an operation that waits, and HALT's shift that waits on one
line and on the other. -/
theorem test_meets_LineDownSettlesBoard :
    (State.reset.board .a).lineDown = some 5000 ∧ State.reset.gens.length = 8 ∧ (State.reset.board .a).freeFaults = false ∧
    ((State.reset.modGen 0 (fun x => { x with unconfirmed := true })).gen 0).unconfirmed = true ∧
    ((State.reset.modBoard .a (fun r => { r with freeFaults := true })).board .a).freeFaults = true ∧
    ((State.reset.modGen 3 (fun x => { x with state := .faulted })).gen 3).state = .faulted ∧
    ({ State.reset with route := { State.reset.route with stage := .stopWait, waitSet := [0, 4] } } : State).route.stage =
      .stopWait ∧
    (halting false).route.haltShift = .waiting ∧ (halting false).route.stage = .halted ∧
    (after (.lineDownTimerExpiry .a) (halting false)).route.haltShift = .waiting ∧
    (after (.lineDownTimerExpiry .a) (halting true)).route.haltShift = .shifting := by decide +kernel
theorem test_meets_BoardPresenceExpires :
    (cooking.link (boardLinkId .a)).presence = some 400000 ∧ cooking.resetting = none ∧
    cooking.boardLink .a = .present ∧ (cooking.modLink .genA (fun r => { r with state := .late })).boardLink .a = .late ∧
    cooking.coils.length = 48 ∧ cooking.gens.length = 8 ∧
    ({ standby with ctl := { standby.ctl with mode := .survey }, survey := { standby.survey with state := .running } } :
      State).survey.state ≠ .idle ∧ cooking.survey.state = .idle ∧
    (after (.boardPresenceExpiry .a) (withPans .start [])).ctl.mode = .standby := by decide +kernel
theorem test_meets_StartTimerExpires :
    State.reset.resetting = none ∧ State.reset.ctl.startTimer = some 3000000 ∧ State.reset.boardLink .b = .absent := by
  decide +kernel
theorem test_meets_PartnerFramesArrive :
    (List.replicate 64 (0 : Byte)).length ≤ 64 ∧ (standby.partner .panel).link.queue.length < 2 ∧
    (standby.partner .panel).link.state.up = true ∧ (State.reset.partner .remote).link.state.up = false ∧
    64 < (List.replicate 65 (0 : Byte)).length ∧ (0x02 : Byte) ≠ kindHello := by decide +kernel
/-- Board A in use and lost, frames of 64 and 65 bytes, a queue of two, a kind no board sends, and both tests of START. -/
theorem test_meets_BoardFramesArrive :
    cooking.resetting = none ∧ (cooking.link (boardLinkId .a)).queue.length < 2 ∧
    2 ≤ ((cooking.modLink .genA (fun r => { r with queue := List.replicate 2 (frameOf .hello [1]) })).link
      (boardLinkId .a)).queue.length ∧
    (List.replicate 64 (0 : Byte)).length ≤ 64 ∧ 64 < (List.replicate 65 (0 : Byte)).length ∧
    cooking.gens.length = 8 ∧ (cooking.boardLink .a).up = true ∧ boardSends kindStopConfirm = true ∧
    boardSends 0x60 = false ∧
    ((cooking.modLink .genA (fun r => { r with state := .lost })).boardLink .a).up = false ∧ byteAt [1] 0 % 2 = 1 ∧
    ¬(kindHello = kindHello ∧ ([1, 1] : List Byte).length = 1 ∧ byteAt [1, 1] 0 % 2 = 1) ∧
    (after (.frameArrival .genA kindHello 0 [1])
      ((withPans .start []).modLink .genA (fun r => { r with state := .absent }))).ctl.mode = .standby := by
  decide +kernel
theorem test_meets_BytesAssembleTheFrame :
    (standby.link .genB).rx = .hunting ∧ (List.replicate 64 (0xC5 : Byte)).length ≤ 64 := by decide +kernel
theorem test_meets_ReceiverHuntsForSync :
    standby.resetting = none ∧ (standby.link .panel).rx = .hunting ∧ (standby.link .panel).gapTimer = none ∧
    (0xC4 : Byte) ≠ 0xC5 ∧ 64 < (65 : Byte).toNat ∧
    ((((standby.elapse 3000).modLink .panel (fun r => { r with rx := .assembling [1], gapTimer := some 2999 })).link
      .panel).gapTimer = some 2999 ∧ 2999 < (standby.elapse 3000).now) ∧
    ((standby.modLink .panel (fun r => { r with rx := .assembling [1, 7], gapTimer := some 0 })).link .panel).rx =
      .assembling [1, 7] ∧ standby.now ≤ 0 ∧
    ((standby.modLink .panel (fun r => { r with rx := .assembling [1, 7, 1, 9], gapTimer := some 0 })).link .panel).rx =
      .assembling (1 :: 7 :: byteOf ([9] : List Byte).length :: [9]) ∧
    (frameBytes 1 7 [9]).getLast? ≠ some 0 := by decide +kernel
theorem test_meets_PartnerPresenceExpires :
    (cooking.partner .panel).link.presence = some 400000 ∧ (cooking.partner .panel).link.state = .present ∧
    ((cooking.modLink .panel (fun r => { r with state := .late })).partner .panel).link.state = .late ∧
    cooking.ctl.mode = .active ∧ standby.ctl.mode ≠ .active := by decide +kernel
theorem test_meets_SendingTakesOldestFrame :
    (standby.partner .panel).link.state.up = true ∧ (standby.partner .panel).produced = [] ∧
    ((standby.modPartner .panel (fun r => { r with produced := [.notice, .response 7 [0]] })).partner .panel).produced =
      .notice :: [.response 7 [0]] ∧
    ((standby.modPartner .panel (fun r => { r with produced := [.response 7 [0]] })).partner .panel).produced =
      .response 7 [0] :: [] ∧
    ((standby.modPartner .panel (fun r => { r with produced := [.resetResponse 9] })).partner .panel).produced =
      .resetResponse 9 :: [] := by decide +kernel
theorem test_meets_CapturesEnterBothSets :
    holds (standby.partner .panel).captured .survey = false ∧
    holds ((standby.capture .survey).partner .panel).captured .survey = true ∧
    (standby.partner .panel).link.state.up = true ∧ (State.reset.partner .panel).link.state.up = false := by
  decide +kernel
theorem test_meets_LinkControllerRefusesFirst :
    Ready (asked .panel .hello [] standby) .panel (frameOf .hello []) [] ∧
    (frameOf .hello []).kind ≠ requestCode .pause ∧ isRequestKind 0x03 = true ∧ isRequestKind 0x0B = false ∧
    (frameOf .pause []).kind = requestCode .pause ∧ requestFromRemote .pause = false ∧
    requestFromRemote .setLevel = true ∧ (frameOf .setLevel [1]).payload.length ≠ requestLength .setLevel :=
  ⟨(ready_asked .panel .hello [] standby rfl rfl (by decide) rfl).1, by decide, by decide, by decide, rfl, rfl, rfl,
    by decide⟩
/-- STANDBY with a store in flight. -/
def storing : State := after (.storeSettings .panel) (asked .panel .storeSettings [] standby)

theorem test_meets_ModesRefuseRequests :
    ReadyFor (asked .panel .activate [] (withPans .halt [])) .panel .activate (frameOf .activate []) [] ∧
    (asked .panel .activate [] (withPans .halt [])).ctl.mode = .halt ∧
    ReadyFor (asked .panel .storeSettings [] (withPans .start [])) .panel .storeSettings (frameOf .storeSettings []) [] ∧
    (withPans .start []).store.storing = none ∧
    ReadyFor (asked .panel .lockExclusion [] (withPans .survey [])) .panel .lockExclusion (frameOf .lockExclusion []) [] ∧
    (withPans .survey []).ctl.mode = .survey ∧
    ReadyFor (asked .panel .surveyStart [] storing) .panel .surveyStart (frameOf .surveyStart []) [] ∧
    storing.ctl.mode ≠ .halt ∧ storing.store.storing.isSome = true ∧
    ReadyFor (asked .panel .surveyAbort [] cooking) .panel .surveyAbort (frameOf .surveyAbort []) [] ∧
    ReadyFor (asked .panel .pause [] standby) .panel .pause (frameOf .pause []) [] ∧
    ReadyFor (asked .panel .storeSettings [] cooking) .panel .storeSettings (frameOf .storeSettings []) [] ∧
    cooking.ctl.mode = .active ∧ cooking.store.storing = none :=
  ⟨ready_asked _ _ _ _ rfl rfl (by decide) rfl, rfl, ready_asked _ _ _ _ rfl rfl (by decide) rfl, rfl,
    ready_asked _ _ _ _ rfl rfl (by decide) rfl, rfl, ready_asked _ _ _ _ (by decide +kernel) (by decide +kernel) (by decide) rfl,
    by decide +kernel, by decide +kernel, ready_asked _ _ _ _ rfl rfl (by decide) rfl,
    ready_asked _ _ _ _ rfl rfl (by decide) rfl, ready_asked _ _ _ _ rfl rfl (by decide) rfl, rfl, rfl⟩
theorem test_meets_EventRequestsAnswered :
    ReadyFor (asked .remote .readEvents [] standby) .remote .readEvents (frameOf .readEvents []) [] ∧
    ReadyFor (asked .remote .clearEvents [0, 1] standby) .remote .clearEvents (frameOf .clearEvents [0, 1]) [] ∧
    ReadyFor (asked .remote .setEventEnable [0, 1] standby) .remote .setEventEnable (frameOf .setEventEnable [0, 1]) [] ∧
    standby.ctl.mode ≠ .halt ∧
    ReadyFor (asked .panel .clearEvents [0, 1] (withPans .halt [])) .panel .clearEvents (frameOf .clearEvents [0, 1]) [] ∧
    (withPans .halt []).ctl.mode = .halt :=
  ⟨ready_asked _ _ _ _ rfl rfl (by decide) rfl, ready_asked _ _ _ _ rfl rfl (by decide) rfl,
    ready_asked _ _ _ _ rfl rfl (by decide) rfl, by decide, ready_asked _ _ _ _ rfl rfl (by decide) rfl, rfl⟩
theorem test_meets_ReadsAnswered_hello :
    ReadyFor (asked .remote .hello [] standby) .remote .hello (frameOf .hello []) [] :=
  ready_asked _ _ _ _ rfl rfl (by decide) rfl
/-- Each read, with its selector at the ends of what it accepts and just beyond. -/
theorem test_meets_ReadsAnswered :
    (∀ v : Byte, ReadyFor (asked .panel .readStatus [v] standby) .panel .readStatus (frameOf .readStatus [v]) []) ∧
    byteAt [7] 0 ≤ 7 ∧ 7 < byteAt [8] 0 ∧
    (∀ v : Byte, ReadyFor (asked .panel .readPans [v] standby) .panel .readPans (frameOf .readPans [v]) []) ∧
    1 ≤ byteAt [1] 0 ∧ byteAt [6] 0 ≤ 6 ∧ 6 < byteAt [7] 0 ∧ byteAt [0] 0 = 0 ∧
    (∀ v : Byte, ReadyFor (asked .panel .readCoils [v] standby) .panel .readCoils (frameOf .readCoils [v]) []) ∧
    byteAt [3] 0 ≤ 3 ∧ 3 < byteAt [4] 0 ∧
    (∀ v : Byte, ReadyFor (asked .panel .readGenerators [v] standby) .panel .readGenerators
      (frameOf .readGenerators [v]) []) ∧ byteAt [1] 0 = 1 ∧ 1 < byteAt [2] 0 ∧
    (∀ v : List Byte, v.length = 3 →
      ReadyFor (asked .panel .readTable v standby) .panel .readTable (frameOf .readTable v) []) ∧
    byteAt [0, 0, 17] 1 + byteAt [0, 0, 17] 2 ≤ 17 ∧ 17 < byteAt [0, 1, 17] 1 + byteAt [0, 1, 17] 2 ∧
    byteAt [0, 0, 0] 2 = 0 ∧ byteAt [1, 3, 0] 1 ≤ 3 ∧ 3 < byteAt [1, 4, 0] 1 ∧ 1 < byteAt [2, 0, 0] 0 ∧
    (∀ v : Byte, ReadyFor (asked .panel .readSettings [v] standby) .panel .readSettings (frameOf .readSettings [v]) []) :=
  ⟨fun _ => ready_asked _ _ _ _ rfl rfl (by decide) rfl, by decide, by decide,
    fun _ => ready_asked _ _ _ _ rfl rfl (by decide) rfl, by decide, by decide, by decide, by decide,
    fun _ => ready_asked _ _ _ _ rfl rfl (by decide) rfl, by decide, by decide,
    fun _ => ready_asked _ _ _ _ rfl rfl (by decide) rfl, by decide, by decide,
    fun _ h => ready_asked _ _ _ _ rfl rfl (by decide) h, by decide, by decide, by decide, by decide, by decide,
    by decide, fun _ => ready_asked _ _ _ _ rfl rfl (by decide) rfl⟩
/-- A Set Level from the panel at level 14 and one from the remote under each permit. -/
theorem test_meets_SetLevelIsTaken :
    ReadyFor (asked .panel .setLevel [1, 14] cooking) .panel .setLevel (frameOf .setLevel [1, 14]) [] ∧
    ReadyFor (asked .remote .setLevel [1, 5] cooking) .remote .setLevel (frameOf .setLevel [1, 5]) [] ∧
    cooking.ctl.mode = .active ∧ byteAt [1, 14] 1 ≤ 14 ∧ findPan cooking.pans 1 = some (pan 1 5 .heating) ∧
    (pan 1 5 .heating).state ≠ .forming ∧ byteAt [1, 5] 1 ≤ (pan 1 5 .heating).level ∧
    ({ cooking with levels := { cooking.levels with permit := .reduceOnly } } : State).levels.permit = .reduceOnly ∧
    ({ cooking with levels := { cooking.levels with permit := .adjust } } : State).levels.permit = .adjust :=
  ⟨ready_asked _ _ _ _ rfl rfl (by decide) rfl, ready_asked _ _ _ _ rfl rfl (by decide) rfl, rfl, by decide, rfl,
    by decide, by decide, rfl, rfl⟩
theorem test_meets_SetLevelIsRefused :
    ReadyFor (asked .panel .setLevel [1, 15] standby) .panel .setLevel (frameOf .setLevel [1, 15]) [] ∧
    standby.ctl.mode = .standby ∧ 14 < byteAt [1, 15] 1 ∧ findPan cooking.pans 2 = none ∧
    findPan (withPans .active [pan 1 0 .forming]).pans 1 = some (pan 1 0 .forming) ∧
    ReadyFor (asked .remote .setLevel [1, 14] cooking) .remote .setLevel (frameOf .setLevel [1, 14]) [] ∧
    cooking.levels.permit = .off ∧ (pan 1 5 .heating).level < byteAt [1, 6] 1 ∧ (pan 1 0 .placed).level = 0 :=
  ⟨ready_asked _ _ _ _ rfl rfl (by decide) rfl, rfl, by decide, by decide +kernel, rfl,
    ready_asked _ _ _ _ rfl rfl (by decide) rfl, rfl, by decide, rfl⟩
theorem test_meets_RemoteNeverStartsOrBoosts :
    exec (commandOf .setLevel .remote) (asked .remote .setLevel [1, 5] cooking) =
      .next (after (.setLevel .remote) (asked .remote .setLevel [1, 5] cooking)) ∧
    (panNumbers (asked .remote .setLevel [1, 5] cooking)).Pairwise (· < ·) := ⟨rfl, by decide +kernel⟩
theorem test_meets_AllOffAndRemotePermit :
    ReadyFor (asked .panel .allOff [] cooking) .panel .allOff (frameOf .allOff []) [] ∧
    (asked .panel .allOff [] cooking).ctl.mode = .active ∧ (asked .panel .allOff [] standby).ctl.mode ≠ .active ∧
    ReadyFor (asked .panel .setRemotePermit [2] cooking) .panel .setRemotePermit (frameOf .setRemotePermit [2]) [] ∧
    byteAt [2] 0 ≤ 2 ∧ 2 < byteAt [3] 0 ∧ standby.ctl.mode = .standby :=
  ⟨ready_asked _ _ _ _ rfl rfl (by decide) rfl, rfl, by decide, ready_asked _ _ _ _ rfl rfl (by decide) rfl,
    by decide, by decide, rfl⟩
theorem test_meets_PausesBeginAndEnd :
    ReadyFor (asked .panel .pause [] cooking) .panel .pause (frameOf .pause []) [] ∧ cooking.levels.pause = false ∧
    ReadyFor (asked .panel .resume [] { cooking with levels := { cooking.levels with pause := true } }) .panel .resume
      (frameOf .resume []) [] ∧
    ({ cooking with levels := { cooking.levels with pause := true, pauseTimer := some 600000000 } } :
      State).levels.pauseTimer = some 600000000 ∧ cooking.ctl.mode = .active :=
  ⟨ready_asked _ _ _ _ rfl rfl (by decide) rfl, rfl, ready_asked _ _ _ _ rfl rfl (by decide) rfl, rfl, rfl⟩
theorem test_meets_RecallAndBoostExpire :
    (({ cooking with recalls := [{ level := 5, boost := none, size := 4, liftTime := 0 }] } : State).recalls[0]?).isSome =
      true ∧
    findPan (withPans .active [pan 1 14 .heating]).pans 1 = some (pan 1 14 .heating) ∧
    (pan 1 14 .heating).state = .heating ∧ (pan 1 14 .heating).boost.isSome = true ∧
    (withPans .active [pan 1 14 .heating]).levels.pause = false := by decide +kernel
/-- An Activate that is taken, and one for each answer of Table 8-3. -/
theorem test_meets_ActivateIsJudged :
    ReadyFor (asked .panel .activate [] standby) .panel .activate (frameOf .activate []) [] ∧
    (asked .panel .activate [] standby).ctl.mode = .standby ∧ (asked .panel .activate [] standby).store.storing = none ∧
    (asked .panel .activate [] standby).links.panel.link.state = .present ∧
    (asked .panel .activate [] standby).mains.l1.sync = .valid ∧
    (asked .panel .activate [] standby).boardLink .a = .present ∧ LinesFollow (asked .panel .activate [] standby) ∧
    (withPans .survey []).ctl.mode = .survey ∧ cooking.ctl.mode = .active ∧
    (after (.storeSettings .panel) (asked .panel .storeSettings [] standby)).store.storing.isSome = true ∧
    ({ standby with mains := { standby.mains with l1 := PhaseRec.initial } } : State).mains.l1.sync ≠ .valid := by
  refine ⟨ready_asked _ _ _ _ rfl rfl (by decide) rfl, rfl, rfl, rfl, rfl, rfl, ?_, rfl, rfl, by decide +kernel, by decide⟩
  unfold LinesFollow; decide +kernel
theorem test_meets_DeactivateAndAutoOffLeaveActive :
    ReadyFor (asked .panel .deactivate [] cooking) .panel .deactivate (frameOf .deactivate []) [] ∧
    (asked .panel .deactivate [] cooking).ctl.mode = .active ∧
    (asked .panel .deactivate [] standby).ctl.mode = .standby ∧ (withPans .survey []).ctl.mode = .survey ∧
    ({ cooking with levels := { cooking.levels with autoOff := some 120000000 } } : State).levels.autoOff =
      some 120000000 :=
  ⟨ready_asked _ _ _ _ rfl rfl (by decide) rfl, rfl, rfl, rfl, rfl⟩
theorem test_meets_LeavingActiveHasEveryEffect :
    ModesAgree (asked .panel .deactivate [] cooking) ∧ (asked .panel .deactivate [] cooking).ctl.mode = .active ∧
    (after (.deactivate .panel) (asked .panel .deactivate [] cooking)).ctl.mode = .standby := by
  unfold ModesAgree; decide +kernel
/-- A FAULTED generator on board A, whose line has settled, and one on board B, whose line is asserted, in ACTIVE. -/
def leaving : State :=
  let s := (cooking.modGen 0 (fun x => { x with state := .faulted, fault := .noLoad, retries := 2 })).modGen 4
    (fun x => { x with state := .faulted, fault := .noLoad, retryTimer := .running 2000000 })
  { s with
    boardA := { s.boardA with line := false, settled := true, stuck := true, lineDown := none }
    boardB := { s.boardB with line := true, settled := false, lineDown := none }
    mains := { s.mains with l1 := { s.mains.l1 with sync := .valid, edgeTimer := some 25000 } }
    route := { s.route with stage := .shifting, compare := true, target := [some 0] } }
/-- R111, R105: the first is IDLE at once; the second stays FAULTED until its line, which falls, has settled. -/
theorem test_leaving_frees_faults :
    (after (.chainTransferComplete 5) leaving).ctl.mode = .halt ∧
    ((after (.chainTransferComplete 5) leaving).gen 0).state = .idle ∧
    ((after (.chainTransferComplete 5) leaving).gen 4).state = .faulted ∧
    (after (.chainTransferComplete 5) leaving).boardB.freeFaults = true ∧
    (after (.chainTransferComplete 5) leaving).boardB.lineDown = some 5000 ∧
    ((after (.lineDownTimerExpiry .b) (after (.chainTransferComplete 5) leaving)).gen 4).state = .idle := by
  decide +kernel
theorem test_meets_LeavingActiveHasEveryEffect_targets :
    ModesAgree leaving ∧ leaving.ctl.mode = .active ∧ (after (.chainTransferComplete 5) leaving).ctl.mode = .halt ∧
    (after (.zeroCrossEdge .l1 30000) leaving).ctl.mode = .standby ∧
    leavingMoment leaving (after (.zeroCrossEdge .l1 30000) leaving) (.zeroCrossEdge .l1 30000) = 25000 ∧
    (leaving.gen 0).state = .faulted ∧ leaving.boardA.settled = true ∧ (leaving.gen 0).unconfirmed = false ∧
    (leaving.gen 4).state = .faulted ∧ leaving.boardB.settled = false ∧ leaving.boardB.line = true ∧
    leaving.route.stage ≠ .ready ∧ holds (leaving.partner .remote).enabled .modeChanged = true := by
  unfold ModesAgree; decide +kernel
/-- The routing operation of a leaving for STANDBY with the stage READY, a coil being latched. -/
theorem test_meets_LeavingActiveHasEveryEffect_route :
    (cooking.mapCoils (fun c k => if c = 0 then { k with latched := some 0 } else k)).route.stage = .ready ∧
    ((cooking.mapCoils (fun c k => if c = 0 then { k with latched := some 0 } else k)).coil 0).latched ≠ none ∧
    (asked .panel .deactivate [] cooking).route.stage = .ready ∧
    ∀ c < 48, ((asked .panel .deactivate [] cooking).coil c).latched = none := by decide +kernel
theorem test_meets_SoftResetIsTaken :
    ReadyFor (asked .panel .softReset [] cooking) .panel .softReset (frameOf .softReset []) [] ∧
    (asked .panel .softReset [] cooking).links.panel.link.state.up = true ∧
    (asked .panel .softReset [] cooking).store.storing = none ∧
    (asked .panel .softReset [] storing).store.storing.isSome = true :=
  ⟨ready_asked _ _ _ _ rfl rfl (by decide) rfl, rfl, rfl, by decide +kernel⟩
/-- A Survey Start that is taken, and one for each refusal of Table 9-2 in STANDBY and ACTIVE. -/
theorem test_meets_SurveyStartIsTaken :
    ReadyFor (asked .panel .surveyStart [] standby) .panel .surveyStart (frameOf .surveyStart []) [] ∧
    standby.ctl.mode = .standby ∧ standby.store.storing = none ∧ standby.boardLink .a = .present ∧
    standby.boardLink .b = .present ∧
    (∀ c < 48, (standby.store.exclusion[c]?).getD false = true → (standby.coil c).excluded = true) ∧
    (∀ c < 48, (standby.coil c).excluded = false → (standby.coil c).cls = .none) ∧ standby.pans = [] ∧
    cooking.ctl.mode = .active ∧ standby.store.settings.showroom = false ∧
    (standby.modLink .genB (fun r => { r with state := .late })).boardLink .b ≠ .present ∧
    (standby.store.exclusion.set 47 true)[47]? = some true ∧ (standby.coil 47).excluded = false ∧
    ((standby.mapCoils (fun _ k => { k with cls := .partly })).coil 47).cls ≠ .none ∧ cooking.pans ≠ [] :=
  ⟨ready_asked _ _ _ _ rfl rfl (by decide) rfl, rfl, rfl, rfl, rfl, by decide +kernel, by decide +kernel, rfl, rfl, rfl,
    by decide +kernel, by decide +kernel, by decide +kernel, by decide +kernel, by decide +kernel⟩

/-- A survey, RUNNING or suspended with this many clear frames. -/
def surveying (state : SurveyState) (clear : Nat) : State :=
  { withPans .survey [] with
    survey := { Survey.initial with state := state, length := 16, clear := clear, timer := some 300000000 } }

/-- A survey of one frame, opened, with a whole frame of samples: its closing completes it, or ends a suspension. -/
def closing (state : SurveyState) : State :=
  let s := surveying state 1
  { s with
    survey := { s.survey with
      opened := true, count := 15, samples := List.replicate 48 (some 70), sums := List.replicate 48 900
      cause := if state = .suspended then some .placement else none } }

theorem test_meets_SurveysAreSuspendedAndEnded :
    (surveying .running 0).ctl.mode = .survey ∧
    ReadyFor (asked .panel .surveySuspend [] (surveying .running 0)) .panel .surveySuspend (frameOf .surveySuspend []) [] ∧
    ReadyFor (asked .panel .surveyResume [] (surveying .suspended 1)) .panel .surveyResume (frameOf .surveyResume []) [] ∧
    (surveying .suspended 1).survey.clear < 2 ∧ 2 ≤ (surveying .suspended 2).survey.clear ∧
    ReadyFor (asked .panel .surveyAbort [] (surveying .suspended 2)) .panel .surveyAbort (frameOf .surveyAbort []) [] ∧
    (surveying .suspended 2).survey.state ≠ .idle ∧ (surveying .suspended 2).survey.timer = some 300000000 ∧
    (closing .running).coils.length = 48 ∧ (closing .running).store.settings.showroom = false ∧
    ({ closing .running with store :=
      { standby.store with settings := { Settings.default with showroom := true } } } : State).store.settings.showroom =
      true :=
  ⟨rfl, ready_asked _ _ _ _ rfl rfl (by decide) rfl, ready_asked _ _ _ _ rfl rfl (by decide) rfl, by decide, by decide,
    ready_asked _ _ _ _ rfl rfl (by decide) rfl, by decide, rfl, by decide +kernel, rfl, rfl⟩
/-- A report taken while a survey is under way, on a board whose line stands settled. -/
theorem test_meets_SurveysAreSuspendedAndEnded_report :
    ReportReady (reporting faulting (closing .running)) .a { kind := kindReport, tag := 3, payload := faulting } []
      (joinReport (List.replicate 24 60) faulting) ∧
    ¬DrivesAfterStop (reporting faulting (closing .running)) .a (joinReport (List.replicate 24 60) faulting) ∧
    (reporting faulting (closing .running)).store.settings.showroom = false := by
  refine ⟨ready_reporting faulting _ rfl rfl (by decide +kernel), ?_, rfl⟩
  unfold DrivesAfterStop; decide +kernel
/-- A survey in showroom mode with the table at 0, at its first frame start. -/
theorem test_meets_SurveysAreSuspendedAndEnded_showroom : ∃ s : State, s.coils.length = 48 ∧
    s.store.settings.showroom = true ∧ s.survey.state = .running ∧ s.survey.count + 2 < s.survey.length ∧
    ∀ c < 48, (s.coil c).excluded = false →
      min ((s.store.showroomTable[c]?).getD 0) 1023 ≤ (s.coil c).baseline + s.store.settings.tp :=
  ⟨{ surveying .running 0 with store := { standby.store with settings := { Settings.default with showroom := true } } },
    by decide +kernel⟩
/-- R152, R153: the last whole frame completes a survey with the means as baselines; the second clear frame resumes one. -/
theorem test_frame_start_closes_survey :
    (closing .running).frameStart.survey.last = .completed ∧
    ((closing .running).frameStart.coil 47).baseline = (900 + 70) / 16 ∧
    (closing .suspended).frameStart.survey.state = .running := by decide +kernel
theorem test_meets_ShowroomRowIsWritten :
    ReadyFor (asked .panel .writeShowroomRow (3 :: List.replicate 24 3) standby) .panel .writeShowroomRow
      (frameOf .writeShowroomRow (3 :: List.replicate 24 3)) [] ∧
    standby.ctl.mode ≠ .start ∧ standby.ctl.mode ≠ .halt ∧ byteAt (3 :: List.replicate 24 3) 0 ≤ 3 ∧
    3 < byteAt (4 :: List.replicate 24 3) 0 ∧ standby.store.showroomTable.length = 48 ∧
    (∀ i < 12, numAt (3 :: List.replicate 24 3) (1 + 2 * i) ≤ 1023) ∧
    1023 < numAt (3 :: 4 :: List.replicate 23 0) (1 + 2 * 0) :=
  ⟨ready_asked _ _ _ _ rfl rfl (by decide) rfl, by decide, by decide, by decide, by decide, by decide, by decide,
    by decide⟩
/-- The settings that a Write Setting leaves. -/
def settingsAfter (payload : List Byte) : Settings :=
  (after (.writeSetting .panel) (asked .panel .writeSetting payload standby)).store.settings

/-- Dependent and enumerated settings, and the settings 3, 9 and 17 written anew and with the value in force. -/
theorem test_meets_SettingIsWritten :
    ReadyFor (asked .panel .writeSetting [4, 1, 44] standby) .panel .writeSetting (frameOf .writeSetting [4, 1, 44]) [] ∧
    standby.ctl.mode = .standby ∧ cooking.ctl.mode = .active ∧ standby.store.storing = none ∧ SettingsFit standby ∧
    settingRange (byteAt [4, 1, 44] 0) = some (40, 400) ∧ settingIsEnum 4 = false ∧
    settingRange (byteAt [15, 0, 3] 0) = some (0, 2) ∧ settingIsEnum 15 = true ∧ 2 < numAt [15, 0, 3] 1 ∧
    settingRange 17 = some (0, 1) ∧ numAt [17, 0, 1] 1 ≤ 1 ∧ byteAt [0, 0, 1] 0 = 0 ∧ 17 < byteAt [18, 0, 1] 0 ∧
    (∀ w ∈ ([[3, 0, 1], [9, 0, 30], [17, 0, 1]] : List (List Byte)), settingsAfter w ≠ Settings.default) ∧
    ∀ w ∈ ([[3, 0, 2], [9, 0, 10], [17, 0, 0]] : List (List Byte)), settingsAfter w = Settings.default := by
  refine ⟨ready_asked _ _ _ _ rfl rfl (by decide) rfl, rfl, rfl, rfl, ?_⟩
  unfold SettingsFit; decide +kernel
/-- A rising table at both ends of its range, one that falls, and the last coil's flag. -/
theorem test_meets_StoreAndExclusionWrites :
    ReadyFor (asked .panel .writeLevelTable ((List.replicate 7 [0, 50] ++ List.replicate 7 [14, 116]).flatten) standby)
      .panel .writeLevelTable
      (frameOf .writeLevelTable ((List.replicate 7 [0, 50] ++ List.replicate 7 [14, 116]).flatten)) [] ∧
    levelTableFits (List.replicate 7 50 ++ List.replicate 7 3700) = true ∧ levelTableFits [60, 50] = false ∧
    ReadyFor (asked .panel .setExclusion [47] standby) .panel .setExclusion (frameOf .setExclusion [47]) [] ∧
    byteAt [47] 0 ≤ 47 ∧ 47 < byteAt [48] 0 ∧ standby.store.lock = false ∧
    ReadyFor (asked .panel .lockExclusion [] standby) .panel .lockExclusion (frameOf .lockExclusion []) [] ∧
    ReadyFor (asked .panel .storeSettings [] standby) .panel .storeSettings (frameOf .storeSettings []) [] ∧
    standby.ctl.mode = .standby ∧ standby.store.storing = none ∧ storing.softReset = false ∧
    storing.resetting = none :=
  ⟨ready_asked _ _ _ _ rfl rfl (by decide) rfl, by decide, by decide, ready_asked _ _ _ _ rfl rfl (by decide) rfl,
    by decide, by decide, rfl, ready_asked _ _ _ _ rfl rfl (by decide) rfl,
    ready_asked _ _ _ _ rfl rfl (by decide) rfl, rfl, rfl, by decide +kernel, by decide +kernel⟩
/-- The laws hold of ACTIVE and of a survey, so the statements that steps keep them have states to speak of. -/
theorem test_meets_ModesAndLinesStayInAgreement :
    ModesAgree cooking ∧ LinesFollow cooking ∧ ModesAgree (surveying .running 0) := by
  unfold ModesAgree LinesFollow; decide +kernel
theorem test_meets_LevelsRestOutsideActive : ModesAgree standby ∧ RestsOutsideActive standby := by
  unfold ModesAgree RestsOutsideActive; decide +kernel
theorem test_meets_PanTableStaysSound : TableSound (withPans .active [pan 1 5 .heating, { pan 6 0 .forming with footprint := [46, 47] }]) := by
  unfold TableSound PanSound; decide +kernel
theorem test_meets_SettingsStayInRange : SettingsFit cooking := by unfold SettingsFit; decide +kernel
theorem test_meets_QueuesStayBounded : QueuesBounded (asked .panel .hello [] cooking) := by
  unfold QueuesBounded; decide +kernel
theorem test_meets_HaltLeftOnlyByReset :
    ModesAgree (withPans .halt []) ∧ (withPans .halt []).resetting = none ∧ (withPans .halt []).ctl.mode = .halt := by
  unfold ModesAgree; decide +kernel
theorem test_meets_ExclusionsAreNeverCleared :
    (standby.store.exclusion.set 47 true)[47]? = some true ∧
    step (standby.withPending [.powerOn]) = .next (after .powerOn standby) := ⟨by decide +kernel, rfl⟩

end Sys2Proof.Tests
end

section
/-! PROOFS. What a sample and a temperature do to one coil record (2.2 to 2.5). -/

namespace Sys2Proof.Machine

/-! ### The window and its mean (R17, R18) -/

/-- R17: a window that holds at most `2 ^ n` values keeps the newest `2 ^ n` once a value has joined it. -/
theorem pushSample_eq_drop {n : Nat} {window : List Nat} (h : window.length ≤ 2 ^ n) (x : Nat) :
    pushSample n window x = (window ++ [min x 1023]).drop (window.length + 1 - 2 ^ n) := by
  unfold pushSample limitSample
  have hpos : 0 < 2 ^ n := Nat.two_pow_pos n
  split
  · rw [show window.length + 1 - 2 ^ n = 1 by omega, List.drop_append_of_le_length (by omega)]
  · rw [show window.length + 1 - 2 ^ n = 0 by omega, List.drop_zero]

theorem pushSample_le {n : Nat} {window : List Nat} (h : ∀ v ∈ window, v ≤ 1023) (x : Nat) :
    ∀ v ∈ pushSample n window x, v ≤ 1023 := by
  intro v hv
  have hmem : v ∈ window ∨ v = limitSample x := by
    unfold pushSample at hv
    split at hv <;> rcases List.mem_append.1 hv with hv | hv
    · exact .inl (List.mem_of_mem_drop hv)
    · exact .inr (List.mem_singleton.1 hv)
    · exact .inl hv
    · exact .inr (List.mem_singleton.1 hv)
  rcases hmem with hv | rfl
  · exact h v hv
  · exact Nat.min_le_right _ _

/-- R18: the mean of a window is no greater than its greatest value may be. -/
theorem averageOf_le {window : List Nat} {b : Nat} (h : ∀ v ∈ window, v ≤ b) : averageOf window ≤ b :=
  Nat.div_le_of_le_mul (by simpa [Nat.mul_comm] using List.sum_le_card_nsmul window b h)

/-! ### The class and the hot mark (R20, R24) -/

theorem releaseThreshold_eq (st : Settings) :
    releaseThreshold st = if st.hyst + 1 ≤ st.tp then st.tp - st.hyst else 1 := by
  unfold releaseThreshold; split <;> omega

/-- Table 2-3 from FULL: the step down to PARTIAL is below T_f − H. -/
theorem classify_full (st : Settings) (c : Nat) :
    classify st .full c =
      if c < releaseThreshold st then .none else if c + st.hyst < st.tf then .partly else .full := by
  simp only [classify, Nat.lt_sub_iff_add_lt]

theorem hotAfter_cut {st : Settings} {v : Nat} (h : st.tCut ≤ v) (hot : Bool) : hotAfter st (some v) hot = true := by
  simp [hotAfter, h]

theorem hotAfter_cool {st : Settings} {v : Nat} (h : v + 10 < st.tCut) (hot : Bool) :
    hotAfter st (some v) hot = false := by
  simp only [hotAfter]; rw [if_neg (by omega), if_pos (by omega)]

theorem hotAfter_between {st : Settings} {v : Nat} (hv : v < st.tCut) (h : st.tCut ≤ v + 10) (hot : Bool) :
    hotAfter st (some v) hot = hot := by
  simp only [hotAfter]; rw [if_neg (by omega), if_neg (by omega)]

/-! ### The statement -/

/-- Settles O12: the window, the mean and the thresholds of a sample, and the thresholds of a temperature. -/
theorem readingsMoveCoilRecords : Obligations.ReadingsMoveCoilRecords := by
  unfold Obligations.ReadingsMoveCoilRecords
  refine fun st k => ⟨?_, fun temp => ⟨rfl, ?_, ?_⟩⟩
  · rintro x hlen hle k' c release rfl rfl rfl
    have hmean : averageOf (pushSample st.avgExp k.window x) ≤ 1023 := averageOf_le (pushSample_le hle x)
    have hcover : (takeSample st x k).cover = averageOf (pushSample st.avgExp k.window x) - k.baseline :=
      Nat.min_eq_left (by omega)
    rw [← releaseThreshold_eq]
    refine ⟨pushSample_eq_drop hlen x, pushSample_le hle x, rfl, hcover, by omega, fun hc => ?_, fun hc => ?_,
      fun hc => ?_⟩
    · simp only [takeSample, hc, classify]
    · simp only [takeSample, hc, classify]
    · simp only [takeSample, hc, classify_full]
  · rintro rfl; rfl
  · rintro v rfl
    exact ⟨fun h => hotAfter_cut h k.hot, fun h => hotAfter_cool h k.hot, fun hv h => hotAfter_between hv h k.hot⟩

end Sys2Proof.Machine
end

section
/-! PROOFS. What a write of one setting does to the working settings, what its response says, and what the other blocks
make of it (chapter 11, R22, R29, R52, R105). -/

namespace Sys2Proof.Machine

open Sys2Proof.Safety

/-! ### The settings by their ids (Table 11-1) -/

theorem settingRange_isSome {id : Nat} (h1 : 1 ≤ id) (h17 : id ≤ 17) : (settingRange id).isSome = true := by
  interval_cases id <;> rfl

theorem settingRange_id {id : Nat} {range : Nat × Nat} (h : settingRange id = some range) : 1 ≤ id ∧ id ≤ 17 := by
  unfold settingRange at h
  split at h <;> simp at h ⊢

theorem settingRange_none {id : Nat} (h : id = 0 ∨ 17 < id) : settingRange id = none := by
  cases hr : settingRange id with
  | none => rfl
  | some range => have := settingRange_id hr; omega

theorem settingRange_ordered {id : Nat} {range : Nat × Nat} (h : settingRange id = some range) : range.1 ≤ range.2 := by
  obtain ⟨h1, h17⟩ := settingRange_id h
  interval_cases id <;> cases h <;> decide

/-- Settings whose values are those of others but for one: read by id, the one at place `i` is that of id `i + 1`. -/
theorem Settings.value_of_values_set {st t : Settings} {i x : Nat} (h : t.values = st.values.set i x) (hi : i < 17)
    (j : Nat) : t.value j = if j - 1 = i then x else st.value j := by
  have hlen : i < st.values.length := hi
  unfold Settings.value
  rw [h, List.getElem?_set]
  by_cases hj : i = j - 1
  · subst hj; simp [hlen]
  · rw [if_neg hj, if_neg (Ne.symm hj)]

/-- The code under which a written value reads back: an enumeration has the codes of its set alone. -/
def writtenCode (id v : Nat) : Nat :=
  if id = 15 then (moveFilterOf v).code else if id = 17 then flag (decide (v = 1)) else v

/-- R175: a value within its setting's set or range reads back as it was written. -/
theorem writtenCode_eq {id v : Nat} {range : Nat × Nat} (hr : settingRange id = some range)
    (hv : settingIsEnum id = true → v ≤ range.2) : writtenCode id v = v := by
  by_cases h15 : id = 15
  · subst h15; cases hr
    have hle : v ≤ 2 := hv rfl
    interval_cases v <;> rfl
  by_cases h17 : id = 17
  · subst h17; cases hr
    have hle : v ≤ 1 := hv rfl
    interval_cases v <;> rfl
  rw [writtenCode, if_neg h15, if_neg h17]

/-- R175: the value written takes the place of its id among the values. -/
theorem Settings.values_write (st : Settings) {id : Nat} (v : Nat) (h1 : 1 ≤ id) (h17 : id ≤ 17) :
    (st.write id v).values = st.values.set (id - 1) (writtenCode id v) := by
  interval_cases id <;> rfl

theorem Settings.write_levelTable (st : Settings) (id v : Nat) : (st.write id v).levelTable = st.levelTable := by
  unfold Settings.write; split <;> rfl

/-- R175: the dependency of T_f among the values. -/
theorem Settings.values_raise_cover (st : Settings) {id : Nat} (h : id = 4 ∨ id = 5 ∨ id = 6) :
    (st.raise id).values = st.values.set 4 (max st.tf (st.tp + 2 * st.hyst)) := by
  rcases h with rfl | rfl | rfl <;> rfl

/-- R175: the dependency of T_cut among the values. -/
theorem Settings.values_raise_heat (st : Settings) {id : Nat} (h : id = 7 ∨ id = 8) :
    (st.raise id).values = st.values.set 7 (max st.tCut (st.tWarn + 10)) := by
  rcases h with rfl | rfl <;> rfl

theorem Settings.raise_other (st : Settings) {id : Nat} (hc : ¬(id = 4 ∨ id = 5 ∨ id = 6)) (hh : ¬(id = 7 ∨ id = 8)) :
    st.raise id = st := by
  unfold Settings.raise
  rw [if_neg (by simpa [or_assoc] using hc), if_neg (by simpa using hh)]

theorem Settings.raise_levelTable (st : Settings) (id : Nat) : (st.raise id).levelTable = st.levelTable := by
  unfold Settings.raise; split <;> [rfl; split <;> rfl]

/-- R175: raising changes no value but that of T_f after a write of 4 to 6 and that of T_cut after one of 7 or 8. -/
theorem Settings.value_raise_of_ne (st : Settings) {id j : Nat} (h1 : 1 ≤ j)
    (hc : j = 5 → ¬(id = 4 ∨ id = 5 ∨ id = 6)) (hh : j = 8 → ¬(id = 7 ∨ id = 8)) :
    (st.raise id).value j = st.value j := by
  by_cases h : id = 4 ∨ id = 5 ∨ id = 6
  · rw [Settings.value_of_values_set (st.values_raise_cover h) (by decide), if_neg (by omega)]
  by_cases h' : id = 7 ∨ id = 8
  · rw [Settings.value_of_values_set (st.values_raise_heat h') (by decide), if_neg (by omega)]
  rw [st.raise_other h h']

/-! ### The settings after a write (R175) -/

theorem clamp_inRange {x lo hi : Nat} (h : lo ≤ hi) : lo ≤ clamp x lo hi ∧ clamp x lo hi ≤ hi := by
  unfold clamp; omega

/-- R175: what is written to a setting: an enumeration is taken only within its set. -/
theorem Settings.value_write (st : Settings) {id v : Nat} {range : Nat × Nat} (hr : settingRange id = some range)
    {j : Nat} (h1 : 1 ≤ j) :
    (st.write id (clamp v range.1 range.2)).value j = if j = id then clamp v range.1 range.2 else st.value j := by
  obtain ⟨hid1, hid17⟩ := settingRange_id hr
  rw [Settings.value_of_values_set (st.values_write _ hid1 hid17) (by omega),
    writtenCode_eq hr (fun _ => (clamp_inRange (settingRange_ordered hr)).2)]
  by_cases hj : j = id
  · rw [if_pos hj, if_pos (by omega)]
  · rw [if_neg hj, if_neg (by omega)]

section
variable (st : Settings) {id v : Nat} {range : Nat × Nat} (hr : settingRange id = some range)
include hr

/-- R175: a setting that is neither T_f nor T_cut holds the limited value once written. -/
theorem Settings.value_afterWrite_self (h5 : id ≠ 5) (h8 : id ≠ 8) :
    (st.afterWrite id v range).value id = clamp v range.1 range.2 := by
  obtain ⟨h1, -⟩ := settingRange_id hr
  rw [Settings.afterWrite, Settings.value_raise_of_ne _ h1 (by omega) (by omega), Settings.value_write st hr h1,
    if_pos rfl]

/-- R175: a write leaves every setting but its own and its dependent. -/
theorem Settings.value_afterWrite_of_ne {j : Nat} (h1 : 1 ≤ j) (hj : j ≠ id) (h5 : j = 5 → id ≠ 4 ∧ id ≠ 6)
    (h8 : j = 8 → id ≠ 7) : (st.afterWrite id v range).value j = st.value j := by
  rw [Settings.afterWrite, Settings.value_raise_of_ne _ h1 (by omega) (by omega), Settings.value_write st hr h1,
    if_neg hj]

end

theorem Settings.afterWrite_levelTable (st : Settings) (id v : Nat) (range : Nat × Nat) :
    (st.afterWrite id v range).levelTable = st.levelTable := by
  rw [Settings.afterWrite, Settings.raise_levelTable, Settings.write_levelTable]

/-! ### Ranges and dependencies are kept (R174, R175) -/

/-- R174: every setting lies within its range. -/
def Settings.InRanges (st : Settings) : Prop :=
  ∀ id range, settingRange id = some range → range.1 ≤ st.value id ∧ st.value id ≤ range.2

/-- R174: what fitting settings are. -/
theorem Settings.fit_iff (st : Settings) :
    st.fit = true ↔ st.InRanges ∧ st.tp + 2 * st.hyst ≤ st.tf ∧ st.tWarn + 10 ≤ st.tCut ∧
      st.levelTable.length = 14 ∧ levelTableFits st.levelTable = true := by
  have hall : (List.range 17).all (fun i =>
      match settingRange (i + 1) with
      | none => false
      | some r => r.1 ≤ st.value (i + 1) && st.value (i + 1) ≤ r.2) = true ↔ st.InRanges := by
    rw [List.all_eq_true]
    constructor
    · intro h id range hr
      obtain ⟨h1, h17⟩ := settingRange_id hr
      obtain ⟨i, rfl⟩ : ∃ i, id = i + 1 := ⟨id - 1, by omega⟩
      have := h i (List.mem_range.2 (by omega))
      simpa [hr] using this
    · intro h i hi
      obtain ⟨range, hr⟩ := Option.isSome_iff_exists.1
        (settingRange_isSome (id := i + 1) (by omega) (by have := List.mem_range.1 hi; omega))
      simpa [hr] using h (i + 1) range hr
  unfold Settings.fit
  rw [Bool.and_eq_true, Bool.and_eq_true, Bool.and_eq_true, Bool.and_eq_true]
  simp only [decide_eq_true_eq, and_assoc]
  exact and_congr hall .rfl

theorem Settings.write_inRanges {st : Settings} (h : st.InRanges) {id : Nat} (v : Nat) {range : Nat × Nat}
    (hr : settingRange id = some range) : (st.write id (clamp v range.1 range.2)).InRanges := by
  intro j other hj
  rw [Settings.value_write st hr (settingRange_id hj).1]
  split
  · rename_i heq
    subst heq
    obtain rfl : range = other := by simpa [hr] using hj
    exact clamp_inRange (settingRange_ordered hr)
  · exact h j other hj

/-- R175: the dependencies raise T_f and T_cut within their ranges. -/
theorem Settings.raise_inRanges {st : Settings} (h : st.InRanges) (id : Nat) : (st.raise id).InRanges := by
  obtain ⟨-, htp⟩ : 40 ≤ st.tp ∧ st.tp ≤ 400 := h 4 _ rfl
  obtain ⟨htfl, htf⟩ : 100 ≤ st.tf ∧ st.tf ≤ 900 := h 5 _ rfl
  obtain ⟨-, hhyst⟩ : 5 ≤ st.hyst ∧ st.hyst ≤ 100 := h 6 _ rfl
  obtain ⟨-, hwarn⟩ : 120 ≤ st.tWarn ∧ st.tWarn ≤ 230 := h 7 _ rfl
  obtain ⟨hcutl, hcut⟩ : 150 ≤ st.tCut ∧ st.tCut ≤ 250 := h 8 _ rfl
  intro j range hj
  obtain ⟨h1, -⟩ := settingRange_id hj
  by_cases hc : id = 4 ∨ id = 5 ∨ id = 6
  · rw [Settings.value_of_values_set (st.values_raise_cover hc) (by decide)]
    split
    · obtain rfl : j = 5 := by omega
      cases hj; dsimp only; omega
    · exact h j range hj
  by_cases hh : id = 7 ∨ id = 8
  · rw [Settings.value_of_values_set (st.values_raise_heat hh) (by decide)]
    split
    · obtain rfl : j = 8 := by omega
      cases hj; dsimp only; omega
    · exact h j range hj
  rw [st.raise_other hc hh]
  exact h j range hj

/-- R175: a write keeps the settings in their ranges and their dependencies. -/
theorem Settings.afterWrite_fit {st : Settings} (h : st.fit = true) {id : Nat} (v : Nat) {range : Nat × Nat}
    (hr : settingRange id = some range) : (st.afterWrite id v range).fit = true := by
  obtain ⟨hranges, hcover, hheat, htable⟩ := st.fit_iff.1 h
  refine (Settings.fit_iff _).2
    ⟨Settings.raise_inRanges (Settings.write_inRanges hranges v hr) id, ?_, ?_, ?_⟩
  · by_cases hc : id = 4 ∨ id = 5 ∨ id = 6
    · rcases hc with rfl | rfl | rfl <;> exact Nat.le_max_right _ _
    · have htp : (st.afterWrite id v range).tp = st.tp :=
        st.value_afterWrite_of_ne hr (j := 4) (by omega) (by omega) (by omega) (by omega)
      have htf : (st.afterWrite id v range).tf = st.tf :=
        st.value_afterWrite_of_ne hr (j := 5) (by omega) (by omega) (by omega) (by omega)
      have hhyst : (st.afterWrite id v range).hyst = st.hyst :=
        st.value_afterWrite_of_ne hr (j := 6) (by omega) (by omega) (by omega) (by omega)
      rw [htp, htf, hhyst]; exact hcover
  · by_cases hh : id = 7 ∨ id = 8
    · rcases hh with rfl | rfl <;> exact Nat.le_max_right _ _
    · have hwarn : (st.afterWrite id v range).tWarn = st.tWarn :=
        st.value_afterWrite_of_ne hr (j := 7) (by omega) (by omega) (by omega) (by omega)
      have hcut : (st.afterWrite id v range).tCut = st.tCut :=
        st.value_afterWrite_of_ne hr (j := 8) (by omega) (by omega) (by omega) (by omega)
      rw [hwarn, hcut]; exact hheat
  · rw [Settings.afterWrite_levelTable]; exact htable

/-! ### The response (Table 12-3) -/

/-- R175: the dependent of a written setting is another setting. -/
theorem dependentOf_ne {id d : Nat} (h : dependentOf id = some d) : d ≠ id ∧ 1 ≤ d ∧ d ≤ 17 := by
  unfold dependentOf at h
  split at h
  · rename_i hid; cases h; simp at hid; omega
  · split at h <;> cases h
    rename_i hid; subst hid; decide

/-- R175: where no other setting has changed, none was raised. -/
theorem raisedBy_none {id : Nat} {before after : Settings}
    (h : ∀ j, 1 ≤ j → j ≤ 17 → j ≠ id → after.value j = before.value j) : raisedBy id before after = none := by
  unfold raisedBy
  cases hd : dependentOf id with
  | none => rfl
  | some d =>
    obtain ⟨hne, h1, h17⟩ := dependentOf_ne hd
    exact if_pos (h d h1 h17 hne).symm

/-- R175: a setting other than the one written that has changed is the dependent raised. -/
theorem raisedBy_afterWrite {st : Settings} {id v : Nat} {range : Nat × Nat} (hr : settingRange id = some range)
    {j : Nat} (h1 : 1 ≤ j) (hj : j ≠ id) (hne : (st.afterWrite id v range).value j ≠ st.value j) :
    raisedBy id st (st.afterWrite id v range) = some j := by
  have hd : dependentOf id = some j := by
    by_contra hd
    refine hne (st.value_afterWrite_of_ne hr h1 hj ?_ ?_)
    · rintro rfl; constructor <;> rintro rfl <;> exact hd rfl
    · rintro rfl rfl; exact hd rfl
  unfold raisedBy
  rw [hd]
  exact if_neg (Ne.symm hne)

/-- R175, Table 12-3: the outcome and the data of a write taken. -/
def writeReply (id v : Nat) (before after : Settings) : Reply × List Byte :=
  if after.value id = v && (raisedBy id before after).isNone then (.accepted, [])
  else (.adjusted, adjustedData id after (raisedBy id before after))

/-- R175: a write taken leaves the settings written, acted on by the other blocks, and answers so. -/
theorem State.takeWrite_eq (s : State) (id v : Nat) (range : Nat × Nat) :
    s.takeWrite id v range =
      { state := ({ s with store := { s.store with settings := s.store.settings.afterWrite id v range } } :
          State).settingsChanged s.store.settings
        reply := (writeReply id v s.store.settings (s.store.settings.afterWrite id v range)).1
        data := (writeReply id v s.store.settings (s.store.settings.afterWrite id v range)).2 } := by
  unfold State.takeWrite writeReply
  dsimp only
  split <;> rfl

theorem writeReply_accepted {id v : Nat} {before after : Settings} (hv : after.value id = v)
    (h : ∀ j, 1 ≤ j → j ≤ 17 → j ≠ id → after.value j = before.value j) :
    writeReply id v before after = (.accepted, []) := by
  simp [writeReply, raisedBy_none h, hv]

theorem writeReply_limited {id v : Nat} {before after : Settings} (hv : after.value id ≠ v)
    (h : ∀ j, 1 ≤ j → j ≤ 17 → j ≠ id → after.value j = before.value j) :
    writeReply id v before after = (.adjusted, be2 (after.value id) ++ [0, 0, 0]) := by
  simp [writeReply, raisedBy_none h, hv, adjustedData]

theorem writeReply_raised {id v j : Nat} {before after : Settings} (h : raisedBy id before after = some j) :
    writeReply id v before after = (.adjusted, be2 (after.value id) ++ byteOf j :: be2 (after.value j)) := by
  simp [writeReply, h, adjustedData]

/-! ### What the other blocks do (R22, R29, R52, R105) -/

/-- Every coil record rewritten by one function. -/
theorem State.mapCoils_const (f : Coil → Coil) (s : State) :
    s.mapCoils (fun _ k => f k) = { s with coils := s.coils.map f } := by
  have hfst : s.coils.zipIdx.map (fun x => f x.1) = s.coils.map f := by
    rw [show (fun x : Coil × Nat => f x.1) = f ∘ Prod.fst from rfl, ← List.map_map, List.zipIdx_map_fst]
  simp only [State.mapCoils, hfst]

section
variable (s : State) {before : Settings}

theorem State.settingsChanged_same (ha : s.store.settings.avgExp = before.avgExp)
    (hw : s.store.settings.recallWindow = before.recallWindow) (hr : s.store.settings.showroom = before.showroom) :
    s.settingsChanged before = s := by
  simp [State.settingsChanged, ha, hw, hr]

/-- R22: a changed averaging exponent empties every window. -/
theorem State.settingsChanged_avgExp (ha : s.store.settings.avgExp ≠ before.avgExp)
    (hw : s.store.settings.recallWindow = before.recallWindow) (hr : s.store.settings.showroom = before.showroom) :
    s.settingsChanged before = { s with coils := s.coils.map emptyWindow } := by
  simp [State.settingsChanged, ha, hw, hr, State.emptyWindows, State.mapCoils_const]

/-- R52: a changed recall window expires the entries it leaves behind. -/
theorem State.settingsChanged_recallWindow (ha : s.store.settings.avgExp = before.avgExp)
    (hw : s.store.settings.recallWindow ≠ before.recallWindow) (hr : s.store.settings.showroom = before.showroom) :
    s.settingsChanged before =
      { s with recalls := s.recalls.filter (fun e => s.now < s.recallDeadline e) } := by
  simp [State.settingsChanged, ha, hw, hr]

/-- R29, R105: a changed showroom setting acts on the windows and has the lines judged. -/
theorem State.settingsChanged_showroom (ha : s.store.settings.avgExp = before.avgExp)
    (hw : s.store.settings.recallWindow = before.recallWindow) (hr : s.store.settings.showroom ≠ before.showroom) :
    s.settingsChanged before = s.showroomChanged.judgeLines := by
  simp [State.settingsChanged, ha, hw, hr]

/-- R29: a coil after the showroom setting has changed. -/
theorem State.coil_showroomChanged (h48 : s.coils.length = 48) {c : Nat} (hc : c < 48) :
    s.showroomChanged.coil c =
      if s.store.settings.showroom = false ∧ (s.boardLink (halfOf c)).up = false then
        { s.coil c with window := [], average := none, cover := 0, cls := .none, temp := none }
      else { s.coil c with window := [], average := none } := by
  have hempty : s.emptyWindows.coil c = emptyWindow (s.coil c) := s.coil_mapCoils _ (by omega)
  have hclear : ∀ (u : State) bd, u.coils.length = 48 →
      (if (s.boardLink bd).up then u else u.clearHalf bd).coil c =
        if halfOf c = bd ∧ (s.boardLink bd).up = false then clearSensing (u.coil c) else u.coil c := fun u bd hu => by
    cases (s.boardLink bd).up
    · simpa [State.clearHalf] using u.coil_mapCoils _ (by omega)
    · simp
  have hlen : s.emptyWindows.coils.length = 48 := by simp [h48]
  unfold State.showroomChanged
  cases hs : s.store.settings.showroom
  · simp only [Bool.false_eq_true, if_false, true_and]
    rw [hclear _ .b (by split <;> simp [hlen]), hclear _ .a hlen, hempty]
    cases halfOf c <;> simp [clearSensing, emptyWindow]
  · simp [hempty, emptyWindow]

/-- R29: the showroom setting acts on the coils alone. -/
theorem State.showroomChanged_eq : s.showroomChanged = { s with coils := s.showroomChanged.coils } := by
  unfold State.showroomChanged; dsimp only; (repeat' split) <;> rfl

/-- R105: the judging of the lines acts on the boards alone. -/
theorem State.judgeLines_eq :
    s.judgeLines = { s with boardA := s.judgeLines.boardA, boardB := s.judgeLines.boardB } := by
  have hone : ∀ (u : State) bd, u.judgeLine bd =
      { u with boardA := (u.judgeLine bd).boardA, boardB := (u.judgeLine bd).boardB } := fun u bd => by
    unfold State.judgeLine; cases bd <;> (repeat' split) <;> rfl
  unfold State.judgeLines
  rw [hone (s.judgeLine .a) .b, hone s .a]

/-- R105, R103: a board's record once both lines have been judged. -/
theorem State.judgeLines_board_eq (bd : Board) :
    s.judgeLines.board bd = lineJudged s.now (s.lineWanted bd) (s.board bd) := by
  rw [State.judgeLines_board, State.judgeLine_board, lineJudged]
  simp only [eq_comm (a := s.lineWanted bd)]
  rfl

end

/-! ### The request (R175) -/

/-- R175: in STANDBY and ACTIVE, with no store in flight, a write is not refused for the mode. -/
theorem State.writeVerdict_dequeue {s : State} {p : Partner} {rest : List Frame}
    (hm : s.ctl.mode = .standby ∨ s.ctl.mode = .active) (hs : s.store.storing = none) :
    (s.dequeue p rest).writeVerdict = none := by
  rcases hm with hm | hm <;> simp [State.writeVerdict, hm, hs]

/-- The state once the front frame has been taken and the settings have been written. -/
def State.written (p : Partner) (rest : List Frame) (st : Settings) (s : State) : State :=
  { s.dequeue p rest with store := { s.store with settings := st } }

section
variable (s : State) (p : Partner) (rest : List Frame) (st : Settings)

@[simp] theorem State.written_store : (s.written p rest st).store = { s.store with settings := st } := rfl
@[simp] theorem State.written_now : (s.written p rest st).now = s.now := s.modLink_now _ _
@[simp] theorem State.written_ctl : (s.written p rest st).ctl = s.ctl := s.modLink_ctl _ _
@[simp] theorem State.written_coils : (s.written p rest st).coils = s.coils := s.modLink_coils _ _

@[simp] theorem State.written_board (bd : Board) : (s.written p rest st).board bd = s.board bd :=
  State.board_congr (s.modLink_boardA _ _) (s.modLink_boardB _ _) bd

@[simp] theorem State.written_boardLink (bd : Board) : (s.written p rest st).boardLink bd = s.boardLink bd := by
  cases p <;> cases bd <;> rfl

/-- The state written, answered. -/
theorem State.written_answered (f : Frame) (r : Reply) (data : List Byte) :
    { s.written p rest st with links := linksAfter s p rest [] (responseTo f r data) } =
      { answered s p f rest r data with store := { s.store with settings := st } } := by
  cases p <;> rfl

end

section
variable {s : State} {p : Partner} {f : Frame} {rest : List Frame} (h : ReadyFor s p .writeSetting f rest)
  (hm : s.ctl.mode = .standby ∨ s.ctl.mode = .active) (hs : s.store.storing = none)
include h hm hs

/-- R175: a Write Setting of no setting, or of a value outside an enumeration, is refused. -/
theorem exec_writeSetting_refused
    (hv : ∀ range, settingRange (byteAt f.payload 0) = some range →
      settingIsEnum (byteAt f.payload 0) = true ∧ range.2 < numAt f.payload 1) :
    exec (.writeSetting p) s = .next (answered s p f rest .outOfRange []) := by
  show execWriteSetting p s = _
  rw [execWriteSetting, State.unlessReset_none _ h.1.1, State.serve_answered h]
  rw [State.writeVerdict_dequeue hm hs]
  cases hr : settingRange (byteAt f.payload 0) with
  | none => rfl
  | some range =>
    obtain ⟨he, hlt⟩ := hv range hr
    simp [he, hlt, refuse]

/-- R175: any other Write Setting is taken. -/
theorem exec_writeSetting_taken {range : Nat × Nat} {id v : Nat} (hid : id = byteAt f.payload 0)
    (hval : v = numAt f.payload 1) (hr : settingRange id = some range) (hv : settingIsEnum id = false ∨ v ≤ range.2)
    {st : Settings} (hst : st = s.store.settings.afterWrite id v range) {reply : Reply} {data : List Byte}
    (hreply : writeReply id v s.store.settings st = (reply, data)) :
    exec (.writeSetting p) s = .next
      { (s.written p rest st).settingsChanged s.store.settings with
        links := linksAfter s p rest [] (responseTo f reply data) } := by
  have hstore : (s.dequeue p rest).store = s.store := by simp
  subst hid hval hst
  show execWriteSetting p s = _
  rw [execWriteSetting, State.unlessReset_none _ h.1.1, State.serve_taken h (es := [])]
  · rw [State.writeVerdict_dequeue hm hs, hr]
    dsimp only
    rw [if_neg (by rcases hv with hv | hv <;> simp [hv]), State.takeWrite_eq, hstore, hreply, State.written]
  · simp only [State.settingsChanged_frame]; rfl

end

/-! ### The statement -/

theorem Settings.showroom_of_value {a b : Settings} (h : a.value 17 = b.value 17) : a.showroom = b.showroom := by
  replace h : flag a.showroom = flag b.showroom := h
  cases ha : a.showroom <;> cases hb : b.showroom <;> simp [ha, hb, flag] at h ⊢

/-- Settles O52: the write by its place among the values, its reply by the dependent raised, and each of its three
effects by the setting that was written. -/
theorem settingIsWritten : Obligations.SettingIsWritten := by
  unfold Obligations.SettingIsWritten
  intro s p f rest id v hready hmode hstoring hid hval
  refine ⟨fun hnone => ?_, settingRange_isSome, fun range hr hfit => ⟨fun he hlt => ?_, fun hv => ?_⟩⟩
  · refine exec_writeSetting_refused hready hmode hstoring (fun range hr => ?_)
    rw [← hid, settingRange_none hnone] at hr
    cases hr
  · refine exec_writeSetting_refused hready hmode hstoring (fun other hr' => ?_)
    obtain rfl : range = other := by rw [← hid, hr] at hr'; exact Option.some.inj hr'
    exact ⟨hid ▸ he, hval ▸ hlt⟩
  obtain ⟨st, hst⟩ : ∃ st, st = s.store.settings.afterWrite id v range := ⟨_, rfl⟩
  obtain ⟨⟨reply, data⟩, hreply⟩ : ∃ r, writeReply id v s.store.settings st = r := ⟨_, rfl⟩
  have hother : ∀ j, 1 ≤ j → j ≠ id → (j = 5 → id ≠ 4 ∧ id ≠ 6) → (j = 8 → id ≠ 7) →
      st.value j = s.store.settings.value j := fun j h1 hj h5 h8 => by
    rw [hst]; exact s.store.settings.value_afterWrite_of_ne hr h1 hj h5 h8
  have hthree : id ≠ 3 → st.avgExp = s.store.settings.avgExp := fun h =>
    hother 3 (by omega) (Ne.symm h) (by omega) (by omega)
  have hnine : id ≠ 9 → st.recallWindow = s.store.settings.recallWindow := fun h =>
    hother 9 (by omega) (Ne.symm h) (by omega) (by omega)
  have hseventeen : id ≠ 17 → st.showroom = s.store.settings.showroom := fun h =>
    Settings.showroom_of_value (hother 17 (by omega) (Ne.symm h) (by omega) (by omega))
  have hstore : ((s.written p rest st).settingsChanged s.store.settings).store.settings = st := by simp
  refine ⟨{ (s.written p rest st).settingsChanged s.store.settings with
      links := linksAfter s p rest [] (responseTo f reply data) },
    { answered s p f rest reply data with store := { s.store with settings := st } }, reply, data, st,
    exec_writeSetting_taken hready hmode hstoring hid hval hr hv hst hreply, hstore.symm, ?_, ?_, ?_, ?_,
    ?_, ?_, fun j h1 _ hj h5 h8 => hother j h1 hj h5 h8, ?_, ?_, ?_, ?_, rfl, ?_, ?_, ?_, ?_⟩
  · have := Settings.afterWrite_fit hfit v hr
    rw [← hst, ← hstore] at this
    exact this
  · intro h5 h8; rw [hst]; exact s.store.settings.value_afterWrite_self hr h5 h8
  · rintro rfl; cases hr; rw [hst]; rfl
  · rintro rfl; cases hr; rw [hst]; rfl
  · rintro (rfl | rfl) <;> rw [hst] <;> rfl
  · rintro rfl; rw [hst]; rfl
  · rw [hst, Settings.afterWrite_levelTable]
  · rintro ⟨hv, hsame⟩; exact Prod.mk.inj (hreply.symm.trans (writeReply_accepted hv hsame))
  · intro hne hsame; exact Prod.mk.inj (hreply.symm.trans (writeReply_limited hne hsame))
  · intro j h1 h17 hj hne
    refine Prod.mk.inj (hreply.symm.trans (writeReply_raised ?_))
    rw [hst] at hne ⊢; exact raisedBy_afterWrite hr h1 hj hne
  · intro ha hw hs
    rw [State.settingsChanged_same _ ha hw hs, State.written_answered]
  · intro ha
    have hid : id = 3 := by by_contra h; exact ha (hthree h)
    rw [State.settingsChanged_avgExp _ ha (hnine (by omega)) (hseventeen (by omega)), ← State.written_answered,
      State.written_coils]
    rfl
  · intro hw
    have hid : id = 9 := by by_contra h; exact hw (hnine h)
    rw [State.settingsChanged_recallWindow _ (hthree (by omega)) hw (hseventeen (by omega)), ← State.written_answered]
    cases p <;> rfl
  · intro hs
    have hid : id = 17 := by by_contra h; exact hs (hseventeen h)
    rw [State.settingsChanged_showroom _ (hthree (by omega)) (hnine (by omega)) hs]
    refine ⟨fun h48 c hc => ?_, fun bd => ?_, ?_⟩
    · have hcoil := State.coil_showroomChanged (s.written p rest st) (by simpa using h48) hc
      rw [State.written_boardLink, State.coil_congr (s.written_coils p rest st)] at hcoil
      exact (State.coil_congr (by simp) c).trans hcoil
    · have hboard : (s.written p rest st).showroomChanged.board bd = s.board bd :=
        (State.board_congr (by simp) (by simp) bd).trans (s.written_board p rest st bd)
      have hlink : (s.written p rest st).showroomChanged.boardLink bd = s.boardLink bd :=
        (State.boardLink_congr (by simp) bd).trans (s.written_boardLink p rest st bd)
      have hjudged := State.judgeLines_board_eq (s.written p rest st).showroomChanged bd
      simp only [State.lineWanted, State.showroomChanged_frame, State.written_ctl, State.written_store,
        State.written_now, hboard, hlink] at hjudged
      exact (State.board_congr rfl rfl bd).trans hjudged
    · rw [State.judgeLines_eq, State.showroomChanged_eq, ← State.written_answered]

end Sys2Proof.Machine
end

section
/-! PROOFS. What an intake of the Surface Map does to the coils, the captured sets and the survey (R16, R17, R25, R152,
R153), and what the operations around it leave of that. -/

namespace Sys2Proof.Machine

open Sys2Proof.Safety

/-! ### What stands between two states that an intake or a closing tells apart -/

/-- From `s` to `t` nothing changes that an intake or the closing of a frame reads or writes, but that events have been
captured besides (R166). -/
structure SurfaceStands (s t : State) : Prop where
  now : t.now = s.now
  coils : t.coils = s.coils
  survey : t.survey = s.survey
  ctl : t.ctl = s.ctl
  settings : t.store.settings = s.store.settings
  enabled : ∀ p, (t.partner p).enabled = (s.partner p).enabled
  captured : ∀ p e, holds (s.partner p).captured e = true → holds (t.partner p).captured e = true

theorem SurfaceStands.refl {s : State} : SurfaceStands s s :=
  ⟨rfl, rfl, rfl, rfl, rfl, fun _ => rfl, fun _ _ => id⟩

theorem SurfaceStands.trans {s t u : State} (h : SurfaceStands s t) (h' : SurfaceStands t u) : SurfaceStands s u where
  now := h'.now.trans h.now
  coils := h'.coils.trans h.coils
  survey := h'.survey.trans h.survey
  ctl := h'.ctl.trans h.ctl
  settings := h'.settings.trans h.settings
  enabled p := (h'.enabled p).trans (h.enabled p)
  captured p e he := h'.captured p e (h.captured p e he)

theorem SurfaceStands.after {s t u : State} (h' : SurfaceStands t u) (h : SurfaceStands s t) : SurfaceStands s u :=
  h.trans h'

/-- Where the partners' records stand, so do their sets. -/
theorem SurfaceStands.of_partner {s t : State} (hn : t.now = s.now) (hc : t.coils = s.coils) (hv : t.survey = s.survey)
    (hm : t.ctl = s.ctl) (hs : t.store.settings = s.store.settings) (hp : ∀ p, t.partner p = s.partner p) :
    SurfaceStands s t :=
  ⟨hn, hc, hv, hm, hs, fun p => by rw [hp], fun p e => by rw [hp]; exact id⟩

theorem enterAll_enabled (es : List Event) (r : PartnerRec) : (enterAll es r).enabled = r.enabled := by
  induction es generalizing r with
  | nil => rfl
  | cons e rest ih => exact (ih (enterEvent e r)).trans (enterEvent_enabled e r)

theorem State.captureAll_partner (s : State) (es : List Event) (p : Partner) :
    (s.captureAll es).partner p = enterAll es (s.partner p) := by
  rw [State.captureAll_eq]; cases p <;> rfl

theorem State.captureAll_stands (s : State) (es : List Event) : SurfaceStands s (s.captureAll es) where
  now := by simp
  coils := by simp
  survey := by simp
  ctl := by simp
  settings := by simp
  enabled p := by rw [State.captureAll_partner, enterAll_enabled]
  captured p e he := by rw [State.captureAll_partner, holds_enterAll, he, Bool.true_or]

/-- R166: an event of the list that a partner has enabled is captured. -/
theorem State.captureAll_holds {s : State} {es : List Event} {e : Event} (he : e ∈ es) {p : Partner}
    (h : holds (s.partner p).enabled e = true) : holds ((s.captureAll es).partner p).captured e = true := by
  rw [State.captureAll_partner, holds_enterAll]; simp [he, h]

theorem State.startPhases_stands (s : State) : SurfaceStands s s.startPhases := by
  unfold State.startPhases
  exact .after (State.captureAll_stands _ _) (.of_partner rfl rfl rfl rfl rfl (fun _ => rfl))

theorem State.sendDriveOrder_stands (s : State) (bd : Board) : SurfaceStands s (s.sendDriveOrder bd) :=
  .of_partner (by simp) (by simp) (by simp) (by simp) (by simp) (State.partner_congr (by simp))

theorem State.shareComputation_stands (s : State) : SurfaceStands s s.shareComputation := by
  unfold State.shareComputation
  exact .after (State.sendDriveOrder_stands _ _) (.after (State.sendDriveOrder_stands _ _)
    (.after (State.captureAll_stands _ _) (.of_partner rfl rfl rfl rfl rfl (fun _ => rfl))))

theorem State.modPhase_stands (s : State) (ph : Phase) (f : PhaseRec → PhaseRec) : SurfaceStands s (s.modPhase ph f) :=
  .of_partner (by simp) (by simp) (by simp) (by simp) (by simp) (State.partner_congr (by simp))

theorem State.modBoard_stands (s : State) (bd : Board) (f : BoardRec → BoardRec) : SurfaceStands s (s.modBoard bd f) :=
  .of_partner (by simp) (by simp) (by simp) (by simp) (by simp) (State.partner_congr (by simp))

theorem State.takeGenFields_stands (s : State) (bd : Board) (r : BoardReport) :
    SurfaceStands s (s.takeGenFields bd r) := by
  unfold State.takeGenFields
  exact .after (State.captureAll_stands _ _) (.of_partner rfl rfl rfl rfl rfl (fun _ => rfl))

theorem State.modBoardLink_stands (s : State) (bd : Board) (f : LinkRec → LinkRec) :
    SurfaceStands s (s.modLink (boardLinkId bd) f) :=
  .of_partner (by simp) (by simp) (by simp) (by simp) (by simp) (fun p => by cases bd <;> cases p <;> rfl)

/-- An intake shows as well between states that stand around it. -/
theorem intakeTaken_congr {reading : Nat → Option Reading} {s s' t t' : State} (h : IntakeTaken reading s' t)
    (hs : SurfaceStands s s') (ht : SurfaceStands t t') : IntakeTaken reading s t' := by
  have hcoil : ∀ c, s'.coil c = s.coil c := State.coil_congr hs.coils
  have hcoil' : ∀ c, t'.coil c = t.coil c := State.coil_congr ht.coils
  obtain ⟨hleft, htaken, hsurvey⟩ := h
  simp only [hcoil, hs.settings, hs.now, hs.survey, hs.enabled] at hleft htaken hsurvey
  refine ⟨?_, ?_, ?_⟩
  · simpa only [hcoil'] using hleft
  · intro c hc r hr he
    obtain ⟨hrec, hhot⟩ := htaken c hc r hr he
    exact ⟨(hcoil' c).trans hrec, fun h0 h1 p hp => ht.captured p _ (hhot h0 (by rwa [← hcoil']) p hp)⟩
  · simpa only [ht.survey] using hsurvey

/-! ### The samples handed to the survey (R152, R153) -/

/-- R152: the limited sample that an intake hands to the survey for a coil, if any. -/
def State.handed (s : State) (reading : Nat → Option Reading) (c : Nat) : Option Nat :=
  match reading c with
  | none => none
  | some r => if (s.coil c).excluded then none else some (limitSample r.sample)

theorem State.handed_eq_some {s : State} {reading : Nat → Option Reading} {c x : Nat} :
    s.handed reading c = some x ↔
      ∃ r, reading c = some r ∧ (s.coil c).excluded = false ∧ min r.sample 1023 = x := by
  unfold State.handed limitSample
  cases reading c <;> cases (s.coil c).excluded <;> simp

/-- The samples of a survey once those of the coils of a list have been put among them. -/
def putSamples (handed : Nat → Option Nat) (l : List Nat) (samples : List (Option Nat)) : List (Option Nat) :=
  l.foldl (fun t c => match handed c with | none => t | some x => t.set c (some x)) samples

theorem putSamples_getElem? (handed : Nat → Option Nat) (l : List Nat) {samples : List (Option Nat)} {c : Nat}
    (hc : c < samples.length) :
    (putSamples handed l samples)[c]? =
      match handed c with
      | none => samples[c]?
      | some x => if c ∈ l then some (some x) else samples[c]? := by
  induction l generalizing samples with
  | nil => cases handed c <;> simp [putSamples]
  | cons d rest ih =>
    simp only [putSamples, List.foldl_cons] at ih ⊢
    cases hd : handed d with
    | none =>
      rw [ih hc]
      cases hx : handed c with
      | none => rfl
      | some x =>
        have hne : c ≠ d := by rintro rfl; simp [hd] at hx
        simp [hne]
    | some y =>
      dsimp only
      rw [ih (by simpa using hc)]
      by_cases hne : c = d
      · subst hne; simp [hd, hc]
      · cases handed c <;> simp [hne, Ne.symm hne]

/-- The survey after the coil `c` has handed its sample, if it hands one. -/
def Survey.handCoil (st : Settings) (now : Nat) (baseline : Nat → Nat) (handed : Nat → Option Nat) (v : Survey)
    (c : Nat) : Survey :=
  match handed c with
  | none => v
  | some x => v.takeSample st now c x (baseline c)

section
variable {st : Settings} {now : Nat} {baseline : Nat → Nat} {handed : Nat → Option Nat} {l : List Nat} {v : Survey}

/-- R152: an idle survey takes no samples. -/
theorem Survey.handCoils_idle (h : v.state = .idle) : l.foldl (Survey.handCoil st now baseline handed) v = v := by
  induction l with
  | nil => rfl
  | cons c rest ih =>
    have hstep : v.handCoil st now baseline handed c = v := by
      unfold Survey.handCoil Survey.takeSample; split <;> [rfl; rw [h]]
    rw [List.foldl_cons, hstep, ih]

/-- R153: a suspended survey takes the samples, and notes one above the clear threshold. -/
theorem Survey.handCoils_suspended (h : v.state = .suspended) :
    l.foldl (Survey.handCoil st now baseline handed) v =
      { v with
        samples := putSamples handed l v.samples
        exceeded := v.exceeded || l.any (fun c => (handed c).any (fun x => clearThreshold st (baseline c) < x)) } := by
  induction l generalizing v with
  | nil => simp [putSamples]
  | cons c rest ih =>
    rw [List.foldl_cons]
    cases hc : handed c with
    | none =>
      have hstep : v.handCoil st now baseline handed c = v := by simp [Survey.handCoil, hc]
      rw [hstep, ih h]; simp [putSamples, hc]
    | some x =>
      have hstep : v.handCoil st now baseline handed c =
          { v with
            samples := v.samples.set c (some x)
            exceeded := v.exceeded || (clearThreshold st (baseline c) < x) } := by
        simp [Survey.handCoil, hc, Survey.takeSample, h]
      rw [hstep, ih (by exact h)]; simp [putSamples, hc, Bool.or_assoc]

/-- R152: a running survey takes the samples as long as none is above its baseline + T_p. -/
theorem Survey.handCoils_running (h : v.state = .running)
    (hq : ∀ c ∈ l, ∀ x, handed c = some x → x ≤ baseline c + st.tp) :
    l.foldl (Survey.handCoil st now baseline handed) v = { v with samples := putSamples handed l v.samples } := by
  induction l generalizing v with
  | nil => rfl
  | cons c rest ih =>
    obtain ⟨hqc, hqrest⟩ := List.forall_mem_cons.1 hq
    rw [List.foldl_cons]
    cases hc : handed c with
    | none =>
      have hstep : v.handCoil st now baseline handed c = v := by simp [Survey.handCoil, hc]
      rw [hstep, ih h hqrest]; simp [putSamples, hc]
    | some x =>
      have hstep : v.handCoil st now baseline handed c = { v with samples := v.samples.set c (some x) } := by
        simp [Survey.handCoil, hc, Survey.takeSample, h, hqc x hc]
      rw [hstep, ih (by exact h) hqrest]; simp [putSamples, hc]

/-- R153: one sample above its baseline + T_p suspends a running survey, which goes on taking the samples behind it. -/
theorem Survey.handCoils_exceeding (h : v.state = .running)
    (hx : ∃ c ∈ l, ∃ x, handed c = some x ∧ baseline c + st.tp < x) :
    ∃ samples exceeded, l.foldl (Survey.handCoil st now baseline handed) v =
      { v.suspend .placement now with samples := samples, exceeded := exceeded } := by
  induction l generalizing v with
  | nil => obtain ⟨c, hc, -⟩ := hx; cases hc
  | cons c rest ih =>
    rw [List.foldl_cons]
    by_cases hc : ∃ x, handed c = some x ∧ baseline c + st.tp < x
    · obtain ⟨x, hcx, hlt⟩ := hc
      have hstep : v.handCoil st now baseline handed c = v.suspend .placement now := by
        simp [Survey.handCoil, hcx, Survey.takeSample, h, hlt]
      rw [hstep, Survey.handCoils_suspended rfl]
      exact ⟨_, _, rfl⟩
    · have hrest : ∃ d ∈ rest, ∃ x, handed d = some x ∧ baseline d + st.tp < x := by
        obtain ⟨d, hd, hdx⟩ := hx
        rcases List.mem_cons.1 hd with rfl | hd
        · exact absurd hdx hc
        · exact ⟨d, hd, hdx⟩
      obtain ⟨samples', hstep⟩ : ∃ samples', v.handCoil st now baseline handed c = { v with samples := samples' } := by
        cases hcx : handed c with
        | none => exact ⟨v.samples, by simp [Survey.handCoil, hcx]⟩
        | some x =>
          have hle : ¬baseline c + st.tp < x := fun hlt => hc ⟨x, hcx, hlt⟩
          exact ⟨v.samples.set c (some x), by simp [Survey.handCoil, hcx, Survey.takeSample, h, hle]⟩
      obtain ⟨samples, exceeded, hfold⟩ := ih (v := { v with samples := samples' }) h hrest
      rw [hstep, hfold]
      exact ⟨_, _, rfl⟩

end

/-! ### The intake as a whole (R16) -/

/-- R16, R26: a coil in an intake: one that has a reading and is not excluded takes it. -/
def intakeCoil (st : Settings) (reading : Nat → Option Reading) (c : Nat) (k : Coil) : Coil :=
  match reading c with
  | none => k
  | some r => takeReading st r k

theorem intakeCoil_left {st : Settings} {reading : Nat → Option Reading} {c : Nat} {k : Coil}
    (h : reading c = none ∨ k.excluded = true) : intakeCoil st reading c k = k := by
  unfold intakeCoil
  cases hr : reading c with
  | none => rfl
  | some r => exact if_pos (h.resolve_left (by simp [hr]))

theorem intakeCoil_taken {st : Settings} {reading : Nat → Option Reading} {c : Nat} {k : Coil} {r : Reading}
    (hr : reading c = some r) (he : k.excluded = false) :
    intakeCoil st reading c k = takeTemp st r.temp (takeSample st r.sample k) := by
  unfold intakeCoil
  rw [hr]
  exact if_neg (by simp [he])

/-- An intake leaves a coil's baseline and its excluded mark. -/
theorem intakeCoil_frame (st : Settings) (reading : Nat → Option Reading) (c : Nat) (k : Coil) :
    (intakeCoil st reading c k).baseline = k.baseline ∧ (intakeCoil st reading c k).excluded = k.excluded := by
  unfold intakeCoil takeReading
  split <;> [exact ⟨rfl, rfl⟩; split <;> exact ⟨rfl, rfl⟩]

section
variable (s : State) (reading : Nat → Option Reading)

/-- R152: the survey after an intake. -/
theorem State.intake_survey :
    (s.intake reading).survey =
      coilIds.foldl (Survey.handCoil s.store.settings s.now (fun c => (s.coil c).baseline) (s.handed reading))
        s.survey := by
  have hstep : ∀ v c, Survey.handCoil s.store.settings s.now (fun c => (s.coil c).baseline) (s.handed reading) v c =
      match reading c with
      | none => v
      | some r =>
        if (s.coil c).excluded then v
        else v.takeSample s.store.settings s.now c (limitSample r.sample) (s.coil c).baseline := fun v c => by
    unfold Survey.handCoil State.handed
    cases reading c <;> cases (s.coil c).excluded <;> rfl
  simp only [State.intake, State.captureAll_frame]
  exact congrArg (fun step => coilIds.foldl step s.survey) (funext fun v => funext fun c => (hstep v c).symm)

theorem State.intake_coils :
    (s.intake reading).coils = (s.mapCoils (intakeCoil s.store.settings reading)).coils := by
  unfold State.intake; exact (State.captureAll_stands _ _).coils

theorem State.coil_intake (h48 : s.coils.length = 48) {c : Nat} (hc : c < 48) :
    (s.intake reading).coil c = intakeCoil s.store.settings reading c (s.coil c) :=
  (State.coil_congr (s.intake_coils reading) c).trans (s.coil_mapCoils _ (h48 ▸ hc))

/-- R25: a coil whose mark an intake changes from no to yes has COIL_HOT captured. -/
theorem State.intake_captures_hot {c : Nat} (hc : c < 48) {r : Reading} (hr : reading c = some r)
    (hhot : becomesHot s.store.settings r (s.coil c) = true) {p : Partner}
    (hp : holds (s.partner p).enabled .coilHot = true) :
    holds ((s.intake reading).partner p).captured .coilHot = true := by
  unfold State.intake
  refine State.captureAll_holds (List.mem_map.2 ⟨c, ?_, rfl⟩) hp
  exact List.mem_filter.2 ⟨List.mem_range.2 hc, by simpa [hr] using hhot⟩

variable {reading}

/-- R152: the samples after an intake, each limited to 1023. -/
theorem State.putSamples_handed (hlen : s.survey.samples.length = 48) {c : Nat} (hc : c < 48) :
    (putSamples (s.handed reading) coilIds s.survey.samples)[c]? =
      if (s.coil c).excluded = true then s.survey.samples[c]?
      else
        match reading c with
        | none => s.survey.samples[c]?
        | some r => some (some (min r.sample 1023)) := by
  have hmem : c ∈ coilIds := List.mem_range.2 hc
  have hlt : c < s.survey.samples.length := by omega
  rw [putSamples_getElem? _ _ hlt, State.handed]
  cases reading c <;> cases (s.coil c).excluded <;> simp [hmem, limitSample]

/-- R152: an intake with no sample above its baseline + T_p adds the samples to a running survey. -/
theorem State.intake_survey_running (hs : s.survey.state = .running)
    (hq : ∀ c < 48, ∀ r, reading c = some r → (s.coil c).excluded = false →
      min r.sample 1023 ≤ (s.coil c).baseline + s.store.settings.tp) :
    (s.intake reading).survey =
      { s.survey with samples := putSamples (s.handed reading) coilIds s.survey.samples } := by
  rw [State.intake_survey, Survey.handCoils_running hs]
  intro c hc x hx
  obtain ⟨r, hr, he, rfl⟩ := State.handed_eq_some.1 hx
  exact hq c (List.mem_range.1 hc) r hr he

/-- R153: an intake notes a sample above the clear threshold. -/
theorem State.handed_any_clear :
    coilIds.any (fun c => (s.handed reading c).any (fun x =>
        clearThreshold s.store.settings (s.coil c).baseline < x)) = true ↔
      ∃ c < 48, ∃ r, reading c = some r ∧ (s.coil c).excluded = false ∧
        (s.coil c).baseline + max 1 (s.store.settings.tp - s.store.settings.hyst) < min r.sample 1023 := by
  simp only [List.any_eq_true, coilIds, List.mem_range, Option.any_eq_true, State.handed_eq_some,
    clearThreshold]
  constructor
  · rintro ⟨c, hc, x, ⟨r, hr, he, rfl⟩, hx⟩; exact ⟨c, hc, r, hr, he, of_decide_eq_true hx⟩
  · rintro ⟨c, hc, r, hr, he, hx⟩; exact ⟨c, hc, _, ⟨r, hr, he, rfl⟩, decide_eq_true hx⟩

/-- R16, R17, R24, R25, R152, R153: what an intake does. -/
theorem State.intake_taken (h48 : s.coils.length = 48) : IntakeTaken reading s (s.intake reading) := by
  refine ⟨fun c hc hout => ?_, fun c hc r hr he => ?_, fun hs => ?_, fun hq hs hlen => ?_, fun hx hs => ?_,
    fun hs hlen => ?_⟩
  · rw [s.coil_intake reading h48 hc, intakeCoil_left hout]
  · have hcoil := (s.coil_intake reading h48 hc).trans (intakeCoil_taken hr he)
    refine ⟨hcoil, fun hcold hhot p hp => s.intake_captures_hot reading hc hr ?_ hp⟩
    replace hhot : hotAfter s.store.settings r.temp (s.coil c).hot = true := by rw [hcoil] at hhot; exact hhot
    simp [becomesHot, he, hcold, ← hhot]
  · rw [State.intake_survey, Survey.handCoils_idle hs]
  · rw [s.intake_survey_running hs hq]
    exact ⟨rfl, fun c hc => s.putSamples_handed hlen hc⟩
  · obtain ⟨c, hc, r, hr, he, hlt⟩ := hx
    obtain ⟨samples, exceeded, hfold⟩ := Survey.handCoils_exceeding (st := s.store.settings) (now := s.now)
      (baseline := fun c => (s.coil c).baseline) (handed := s.handed reading) (l := coilIds) hs
      ⟨c, List.mem_range.2 hc, _, State.handed_eq_some.2 ⟨r, hr, he, rfl⟩, hlt⟩
    rw [State.intake_survey, hfold]
    rfl
  · rw [State.intake_survey, Survey.handCoils_suspended hs]
    refine ⟨rfl, fun c hc => s.putSamples_handed hlen hc, ?_⟩
    rw [Bool.or_eq_true, s.handed_any_clear]

end

end Sys2Proof.Machine
end

section
/-! PROOFS. The survey's part in a frame start (R152, R153), the requests and the expiry that suspend, resume and end a
survey (R154, R155), and the intake of a board report (R97). -/

namespace Sys2Proof.Machine

open Sys2Proof.Safety

/-! ### The closing of a frame (R152, R153) -/

/-- A closing shows as well between states that stand around it. -/
theorem frameClosed_congr {s s' t t' : State} (h : FrameClosed s' t) (hs : SurfaceStands s s')
    (ht : SurfaceStands t t') : FrameClosed s t' := by
  have hcoil : ∀ c, s'.coil c = s.coil c := State.coil_congr hs.coils
  have hcoil' : ∀ c, t'.coil c = t.coil c := State.coil_congr ht.coils
  have hclosed : ∀ count sum, RunningClosed s' t count sum → RunningClosed s t' count sum := fun count sum h => by
    unfold RunningClosed at h ⊢
    simp only [hcoil, hs.survey, hs.ctl, hs.coils, hs.enabled] at h
    simp only [hcoil', ht.survey, ht.ctl, ht.coils]
    obtain ⟨hlast, hmore⟩ := h
    refine ⟨fun hc => ?_, hmore⟩
    obtain ⟨h1, h2, h3, h4, h5, h6, hp⟩ := hlast hc
    exact ⟨h1, h2, h3, h4, h5, h6,
      fun p => ⟨fun he => ht.captured p _ ((hp p).1 he), fun he => ht.captured p _ ((hp p).2 he)⟩⟩
  obtain ⟨hidle, hrunning, hsuspended⟩ := h
  simp only [FrameWhole, hcoil, hs.survey, hs.ctl, hs.coils] at hidle hrunning hsuspended
  refine ⟨?_, fun h => ?_, ?_⟩
  · simpa only [ht.survey, ht.ctl, ht.coils] using hidle
  · obtain ⟨hwhole, hpart⟩ := hrunning h
    exact ⟨fun hw => hclosed _ _ (hwhole hw), fun hw => hclosed _ _ (hpart hw)⟩
  · simpa only [FrameWhole, ht.survey, ht.ctl, ht.coils] using hsuspended

section
variable (s : State)

theorem State.frameWhole_iff : s.frameWhole = true ↔ FrameWhole s := by
  simp [State.frameWhole, State.liveCoils, coilIds, FrameWhole, or_iff_not_imp_left]

/-- R152 step 1: a whole frame, opened before, is counted and added to the sums. -/
theorem State.countFrame_whole (h : s.survey.opened = true ∧ FrameWhole s) :
    s.countFrame = { s with
      survey := { s.survey with
        count := s.survey.count + 1
        sums := coilIds.map (fun c => (s.survey.sums[c]?).getD 0 +
          if (s.coil c).excluded then 0 else ((s.survey.samples[c]?).getD none).getD 0) } } :=
  if_pos (by rw [h.1, s.frameWhole_iff.2 h.2]; rfl)

/-- R152 step 1: any other frame is not counted. -/
theorem State.countFrame_part (h : ¬(s.survey.opened = true ∧ FrameWhole s)) : s.countFrame = s :=
  if_neg (by rwa [Bool.and_eq_true, s.frameWhole_iff])

theorem coilIds_map_getElem? (f : Nat → Nat) {c : Nat} (hc : c < 48) : ((coilIds.map f)[c]?).getD 0 = f c := by
  simp [coilIds, hc]

/-- R152 steps 2 and 4: with frames still to come a new one opens. -/
theorem State.closeRunning_more (h : s.countFrame.survey.count ≠ s.countFrame.survey.length) :
    s.closeRunning = { s.countFrame with survey := s.countFrame.survey.openFrame } := if_neg h

/-- R152 step 3: with the last frame counted the survey completes. -/
theorem State.closeRunning_last (h : s.countFrame.survey.count = s.countFrame.survey.length) :
    s.closeRunning = s.countFrame.completeSurvey := if_pos h

/-- R23: a coil once it has taken its baseline. -/
theorem State.coil_takeBaselines (h48 : s.coils.length = 48) (baseline : Nat → Nat) {c : Nat} (hc : c < 48) :
    (s.takeBaselines baseline).coil c = { s.coil c with
      window := [], average := none
      baseline := if (s.coil c).excluded = true then (s.coil c).baseline else baseline c } := by
  refine (s.coil_mapCoils _ (h48 ▸ hc)).trans ?_
  cases he : (s.coil c).excluded <;> simp [emptyWindow, he]

theorem State.coil_completeSurvey (h48 : s.coils.length = 48) {c : Nat} (hc : c < 48) :
    s.completeSurvey.coil c = { s.coil c with
      window := [], average := none
      baseline := if (s.coil c).excluded = true then (s.coil c).baseline
        else (s.survey.sums[c]?).getD 0 / s.survey.length } :=
  s.coil_takeBaselines h48 (fun c => (s.survey.sums[c]?).getD 0 / s.survey.length) hc

/-- R152: both events of a completion are captured. -/
theorem State.completeSurvey_captures {e : Event} (he : e = .survey ∨ e = .modeChanged) {p : Partner}
    (h : holds (s.partner p).enabled e = true) : holds (s.completeSurvey.partner p).captured e = true := by
  have hp : s.completeSurvey.partner p = enterAll [.survey, .modeChanged] (s.partner p) := by cases p <;> rfl
  rw [hp, holds_enterAll]
  rcases he with rfl | rfl <;> simp [h]

/-- R152: a frame is closed while the survey runs, `count` and `sums` being what step 1 makes of them. -/
theorem State.closeRunning_closed (h48 : s.coils.length = 48) {count : Nat} {sums : List Nat} {sum : Nat → Nat}
    (hcount : s.countFrame = { s with survey := { s.survey with count := count, sums := sums } })
    (hsum : ∀ c < 48, (sums[c]?).getD 0 = sum c) : RunningClosed s s.closeRunning count sum := by
  refine ⟨fun hlast => ?_, fun hmore => ?_⟩
  · rw [s.closeRunning_last (by rw [hcount]; exact hlast), hcount]
    refine ⟨rfl, rfl, rfl, rfl, rfl, fun c hc => ?_, fun p => ⟨fun he => ?_, fun he => ?_⟩⟩
    · rw [← hsum c hc]; exact State.coil_completeSurvey _ (by exact h48) hc
    · exact State.completeSurvey_captures _ (.inl rfl) he
    · exact State.completeSurvey_captures _ (.inr rfl) he
  · rw [s.closeRunning_more (by rw [hcount]; exact hmore), hcount]
    exact ⟨rfl, rfl, rfl, hsum⟩

/-- R153: a frame is closed while the survey is suspended. -/
theorem State.closeSuspended_eq :
    s.closeSuspended = { s with
      survey :=
        if (if s.frameClear then min 2 (s.survey.clear + 1) else 0) = 2 ∧ s.survey.cause = some .placement then
          { s.survey with
            clear := if s.frameClear then min 2 (s.survey.clear + 1) else 0
            samples := List.replicate 48 none, opened := true, exceeded := false
            state := .running, cause := none, timer := none }
        else
          { s.survey with
            clear := if s.frameClear then min 2 (s.survey.clear + 1) else 0
            samples := List.replicate 48 none, opened := true, exceeded := false } } := by
  unfold State.closeSuspended
  dsimp only [Survey.openFrame]
  generalize (if s.frameClear then min 2 (s.survey.clear + 1) else 0) = clear
  by_cases h : clear = 2 ∧ s.survey.cause = some .placement
  · rw [if_pos h, if_pos (by simpa using h)]
  · rw [if_neg h, if_neg (by simpa using h)]

theorem State.frameClear_iff :
    s.frameClear = true ↔ s.survey.opened = true ∧ FrameWhole s ∧ s.survey.exceeded = false := by
  simp [State.frameClear, s.frameWhole_iff, and_assoc]

/-- R152, R153: what the closing of a frame does. -/
theorem State.surveyClose_closed (h48 : s.coils.length = 48) : FrameClosed s s.surveyClose := by
  refine ⟨fun h => ?_, fun h => ?_, fun h => ?_⟩
  · have hclose : s.surveyClose = s := by simp only [State.surveyClose, h]
    rw [hclose]; exact ⟨rfl, rfl, rfl⟩
  · have hclose : s.surveyClose = s.closeRunning := by simp only [State.surveyClose, h]
    rw [hclose]
    exact ⟨fun hw => s.closeRunning_closed h48 (s.countFrame_whole hw) (fun c hc => coilIds_map_getElem? _ hc),
      fun hw => s.closeRunning_closed h48 (s.countFrame_part hw) (fun c _ => rfl)⟩
  · have hclose : s.surveyClose = s.closeSuspended := by simp only [State.surveyClose, h]
    rw [hclose, s.closeSuspended_eq]
    refine ⟨rfl, rfl, if s.frameClear then min 2 (s.survey.clear + 1) else 0, fun hc => ?_, fun hc => ?_, rfl⟩
    · exact if_pos (s.frameClear_iff.2 hc)
    · exact if_neg (fun hf => hc (s.frameClear_iff.1 hf))

end

/-! ### The frame start (R16, R30, R152) -/

section
variable (s : State)

theorem State.startPhases_eq :
    s.startPhases = { s with mains := s.startPhases.mains, links := s.startPhases.links } := by
  unfold State.startPhases; rw [State.captureAll_eq]

theorem State.surveyClose_eq : s.surveyClose = { s with
    coils := s.surveyClose.coils, survey := s.surveyClose.survey, ctl := s.surveyClose.ctl
    links := s.surveyClose.links } := by
  unfold State.surveyClose State.closeRunning State.countFrame
  rw [State.closeSuspended_eq]
  dsimp only
  (repeat' split) <;> rfl

theorem State.showroomIntake_eq : s.showroomIntake = { s with
    coils := s.showroomIntake.coils, survey := s.showroomIntake.survey, links := s.showroomIntake.links } := by
  unfold State.showroomIntake State.intake; rw [State.captureAll_eq]; rfl

/-- R30: the readings of the showroom table depend on the Settings Store alone. -/
theorem State.showroomReading_eq {t : State} (h : t.store = s.store) : t.showroomReading = tableReading s := by
  funext c; simp only [State.showroomReading, tableReading, h]

theorem State.intakeAndClose_plain (h : s.store.settings.showroom = false) : s.intakeAndClose = s.surveyClose := by
  simp [State.intakeAndClose, h]

/-- R30: a frame start in showroom mode, the survey being idle. -/
theorem State.intakeAndClose_idle (h : s.store.settings.showroom = true) (hs : s.survey.state = .idle) :
    s.intakeAndClose = s.showroomIntake := by
  simp [State.intakeAndClose, h, hs]

/-- R152: a frame start in showroom mode with a survey under way. -/
theorem State.intakeAndClose_survey (h : s.store.settings.showroom = true) (hs : s.survey.state ≠ .idle) :
    s.intakeAndClose =
      if Config.closingBeforeIntake s.choices then s.surveyClose.showroomIntake else s.showroomIntake.surveyClose := by
  simp [State.intakeAndClose, h, hs]

/-- R152: outside showroom mode a frame start closes the survey's frame. -/
theorem State.frameStart_closed (h48 : s.coils.length = 48) (h : s.store.settings.showroom = false) :
    FrameClosed s s.frameStart := by
  unfold State.frameStart
  rw [State.intakeAndClose_plain _ (by simpa using h)]
  exact frameClosed_congr (State.surveyClose_closed _ (by simpa using h48)) s.startPhases_stands
    (State.shareComputation_stands _)

/-- R152, R30: in showroom mode a frame start takes the intake of the showroom table and the closing of the survey's
frame in either order. -/
theorem State.frameStart_showroom (h48 : s.coils.length = 48) (h : s.store.settings.showroom = true) :
    ∃ u : State,
      u = { s with mains := u.mains, coils := u.coils, survey := u.survey, ctl := u.ctl, links := u.links } ∧
      ((FrameClosed s u ∧ IntakeTaken (tableReading s) u s.frameStart) ∨
        (IntakeTaken (tableReading s) s u ∧ FrameClosed u s.frameStart)) := by
  have hshow : s.startPhases.store.settings.showroom = true := by simpa using h
  have hlen : s.startPhases.coils.length = 48 := by simpa using h48
  have hstart := s.startPhases_stands
  by_cases hs : s.startPhases.survey.state = .idle
  · have hs' : s.survey.state = .idle := by simpa using hs
    refine ⟨s, rfl, .inl ⟨⟨fun _ => ⟨rfl, rfl, rfl⟩, by simp [hs'], by simp [hs']⟩, ?_⟩⟩
    unfold State.frameStart
    rw [State.intakeAndClose_idle _ hshow hs, State.showroomIntake, s.showroomReading_eq (by simp)]
    exact intakeTaken_congr (State.intake_taken _ hlen) hstart (State.shareComputation_stands _)
  have hframe := State.intakeAndClose_survey _ hshow hs
  cases hc : Config.closingBeforeIntake s.startPhases.choices
  · refine ⟨s.startPhases.showroomIntake, ?_, .inr ⟨?_, ?_⟩⟩
    · rw [State.showroomIntake_eq, State.startPhases_eq]
    · rw [State.showroomIntake, s.showroomReading_eq (by simp)]
      exact intakeTaken_congr (State.intake_taken _ hlen) hstart .refl
    · rw [State.frameStart, hframe, hc]
      exact frameClosed_congr (State.surveyClose_closed _ (by simpa using h48)) .refl (State.shareComputation_stands _)
  · refine ⟨s.startPhases.surveyClose, ?_, .inl ⟨?_, ?_⟩⟩
    · rw [State.surveyClose_eq, State.startPhases_eq]
    · exact frameClosed_congr (State.surveyClose_closed _ hlen) hstart .refl
    · rw [State.frameStart, hframe, hc, if_pos rfl, State.showroomIntake, s.showroomReading_eq (by simp)]
      exact intakeTaken_congr (State.intake_taken _ (by simpa using h48)) .refl (State.shareComputation_stands _)

end

/-! ### Two frame starts of a showroom survey (R152, log 11) -/

/-- Every entry of the showroom table lies within the threshold of its coil. -/
def TableQuiet (s : State) : Prop :=
  ∀ c < 48, (s.coil c).excluded = false →
    min ((s.store.showroomTable[c]?).getD 0) 1023 ≤ (s.coil c).baseline + s.store.settings.tp

theorem TableQuiet.congr {s t : State} (h : TableQuiet s) (hs : t.store = s.store)
    (hc : ∀ c < 48, (t.coil c).baseline = (s.coil c).baseline ∧ (t.coil c).excluded = (s.coil c).excluded) :
    TableQuiet t := fun c hlt he => by
  rw [hs, (hc c hlt).1]; exact h c hlt ((hc c hlt).2 ▸ he)

/-- A running survey whose next frame start counts its frame: the frame is open, and whole where it is closed before the
intake, else to be filled by a quiet table. -/
structure FrameRipe (s : State) : Prop where
  length : s.coils.length = 48
  showroom : s.store.settings.showroom = true
  running : s.survey.state = .running
  opened : s.survey.opened = true
  whole : Config.closingBeforeIntake s.choices = true → FrameWhole s
  filled : Config.closingBeforeIntake s.choices = false → s.survey.samples.length = 48 ∧ TableQuiet s

theorem FrameRipe.congr {s t : State} (h : FrameRipe s) (hc : t.coils = s.coils) (hs : t.store = s.store)
    (hv : t.survey = s.survey) (hx : t.choices = s.choices) : FrameRipe t where
  length := hc ▸ h.length
  showroom := hs ▸ h.showroom
  running := hv ▸ h.running
  opened := hv ▸ h.opened
  whole hb := by
    have := h.whole (hx ▸ hb)
    simpa only [FrameWhole, State.coil_congr hc, hv] using this
  filled hb := by
    obtain ⟨hlen, hq⟩ := h.filled (hx ▸ hb)
    exact ⟨hv ▸ hlen, hq.congr hs (fun c _ => by rw [State.coil_congr hc]; exact ⟨rfl, rfl⟩)⟩

section
variable {s : State}

/-- An intake leaves the baselines and the excluded marks. -/
theorem TableQuiet.showroomIntake (h : TableQuiet s) (h48 : s.coils.length = 48) : TableQuiet s.showroomIntake :=
  h.congr (by simp) (fun c hc => by
    rw [State.showroomIntake, s.coil_intake _ h48 hc]; exact intakeCoil_frame _ _ _ _)

/-- R152: a quiet table gives a running survey samples and changes nothing else of it. -/
theorem State.showroomIntake_survey (hs : s.survey.state = .running) (hq : TableQuiet s) :
    s.showroomIntake.survey =
      { s.survey with samples := putSamples (s.handed s.showroomReading) coilIds s.survey.samples } :=
  s.intake_survey_running hs (fun c hc r hr he => by
    obtain rfl := Option.some.inj hr
    exact hq c hc he)

/-- R152: a quiet table makes the frame of a running survey whole. -/
theorem State.showroomIntake_whole (h48 : s.coils.length = 48) (hs : s.survey.state = .running) (hq : TableQuiet s)
    (hlen : s.survey.samples.length = 48) : FrameWhole s.showroomIntake := by
  intro c hc he
  rw [State.showroomIntake, s.coil_intake _ h48 hc, (intakeCoil_frame _ _ _ _).2] at he
  rw [State.showroomIntake_survey hs hq, s.putSamples_handed hlen hc, he]
  rfl

/-- An intake counts no frame. -/
theorem Survey.handCoils_count {st : Settings} {now : Nat} {baseline : Nat → Nat} {handed : Nat → Option Nat}
    (l : List Nat) (v : Survey) : (l.foldl (Survey.handCoil st now baseline handed) v).count = v.count := by
  induction l generalizing v with
  | nil => rfl
  | cons c rest ih =>
    rw [List.foldl_cons, ih]
    unfold Survey.handCoil Survey.takeSample
    split <;> [rfl; (split <;> [rfl; (split <;> rfl); rfl])]

theorem State.intake_count (reading : Nat → Option Reading) : (s.intake reading).survey.count = s.survey.count := by
  rw [State.intake_survey, Survey.handCoils_count]

/-- The count stands through the rest of a closing. -/
theorem State.surveyClose_count (hs : s.survey.state = .running) :
    s.surveyClose.survey.count = s.countFrame.survey.count := by
  have hclose : s.surveyClose = s.closeRunning := by simp only [State.surveyClose, hs]
  rw [hclose, State.closeRunning]
  split <;> rfl

theorem State.surveyClose_counts (hs : s.survey.state = .running) (ho : s.survey.opened = true) (hw : FrameWhole s) :
    s.surveyClose.survey.count = s.survey.count + 1 := by
  rw [State.surveyClose_count hs, s.countFrame_whole ⟨ho, hw⟩]

/-- R152: with two frames or more to come, a closing opens a new frame. -/
theorem State.surveyClose_opens (hs : s.survey.state = .running) (hn : s.survey.count + 2 < s.survey.length) :
    s.surveyClose.coils = s.coils ∧ s.surveyClose.survey.state = .running ∧ s.surveyClose.survey.opened = true ∧
      s.surveyClose.survey.samples.length = 48 := by
  have hcount : s.countFrame.survey.count ≤ s.survey.count + 1 ∧ s.countFrame.survey.length = s.survey.length := by
    by_cases h : s.survey.opened = true ∧ FrameWhole s
    · rw [s.countFrame_whole h]; exact ⟨le_rfl, rfl⟩
    · rw [s.countFrame_part h]; exact ⟨Nat.le_succ _, rfl⟩
  have hclose : s.surveyClose = s.closeRunning := by simp only [State.surveyClose, hs]
  rw [hclose, s.closeRunning_more (by omega)]
  simp [Survey.openFrame, hs]

/-- R152: a ripe frame is counted, whichever of the intake and the closing comes first. -/
theorem FrameRipe.counts (h : FrameRipe s) : s.intakeAndClose.survey.count = s.survey.count + 1 := by
  rw [s.intakeAndClose_survey h.showroom (by simp [h.running])]
  cases hc : Config.closingBeforeIntake s.choices
  · obtain ⟨hlen, hq⟩ := h.filled hc
    have hsurvey := State.showroomIntake_survey h.running hq
    have hcount := State.surveyClose_counts (s := s.showroomIntake) (by rw [hsurvey]; exact h.running)
      (by rw [hsurvey]; exact h.opened) (State.showroomIntake_whole h.length h.running hq hlen)
    rw [if_neg (by simp), hcount, hsurvey]
  · rw [if_pos rfl, State.showroomIntake, State.intake_count]
    exact State.surveyClose_counts h.running h.opened (h.whole hc)

/-- R152: with two frames or more to come and a quiet table, a frame start leaves a frame that the next one counts. -/
theorem State.intakeAndClose_ripe (h48 : s.coils.length = 48) (hshow : s.store.settings.showroom = true)
    (hs : s.survey.state = .running) (hn : s.survey.count + 2 < s.survey.length) (hq : TableQuiet s) :
    FrameRipe s.intakeAndClose := by
  rw [s.intakeAndClose_survey hshow (by simp [hs])]
  cases hc : Config.closingBeforeIntake s.choices
  · have hsurvey := State.showroomIntake_survey hs hq
    obtain ⟨hcoils, hrun, hopen, hlen⟩ := State.surveyClose_opens (s := s.showroomIntake) (by rw [hsurvey]; exact hs)
      (by rw [hsurvey]; exact hn)
    rw [if_neg (by simp)]
    refine ⟨by simpa using h48, by simpa using hshow, hrun, hopen, by simp [hc], fun _ => ⟨hlen, ?_⟩⟩
    exact (hq.showroomIntake h48).congr (by simp) (fun c _ => by rw [State.coil_congr hcoils]; exact ⟨rfl, rfl⟩)
  · obtain ⟨hcoils, hrun, hopen, hlen⟩ := State.surveyClose_opens hs hn
    have hq' : TableQuiet s.surveyClose :=
      hq.congr (by simp) (fun c _ => by rw [State.coil_congr hcoils]; exact ⟨rfl, rfl⟩)
    have hsurvey := State.showroomIntake_survey hrun hq'
    rw [if_pos rfl]
    refine ⟨by simpa using h48, by simpa using hshow, by rw [hsurvey]; exact hrun, by rw [hsurvey]; exact hopen,
      fun _ => State.showroomIntake_whole (by simpa using h48) hrun hq' hlen, by simp [hc]⟩

/-- R152: of two frame starts the second counts its frame. -/
theorem State.frameStart_frameStart_count (h48 : s.coils.length = 48) (hshow : s.store.settings.showroom = true)
    (hs : s.survey.state = .running) (hn : s.survey.count + 2 < s.survey.length) (hq : TableQuiet s) :
    s.frameStart.frameStart.survey.count = s.frameStart.survey.count + 1 := by
  have hcoil : ∀ c, s.startPhases.coil c = s.coil c := State.coil_congr (by simp)
  have hripe : FrameRipe s.startPhases.intakeAndClose :=
    State.intakeAndClose_ripe (by simpa using h48) (by simpa using hshow) (by simpa using hs) (by simpa using hn)
      (hq.congr (by simp) (fun c _ => by rw [hcoil]; exact ⟨rfl, rfl⟩))
  have hnext : FrameRipe s.frameStart.startPhases :=
    hripe.congr (by simp [State.frameStart]) (by simp [State.frameStart]) (by simp [State.frameStart])
      (by simp [State.frameStart])
  have hcount := hnext.counts
  rw [State.frameStart]
  simpa using hcount

end

/-! ### The requests and the suspend timer (R154, R155) -/

theorem Survey.takeSuspend_running {v : Survey} {now : Nat} (h : v.state = .running) :
    v.takeSuspend now = v.suspend .request now := by simp only [Survey.takeSuspend, h]

theorem Survey.takeSuspend_suspended {v : Survey} {now : Nat} (h : v.state = .suspended) :
    v.takeSuspend now = { v with cause := some .request } := by simp only [Survey.takeSuspend, h]

section
variable {s : State} {p : Partner} {f : Frame} {rest : List Frame} (hm : s.ctl.mode = .survey)
include hm

theorem surveyOnly_dequeue : surveyOnly (s.dequeue p rest).ctl.mode = none := by
  rw [show (s.dequeue p rest).ctl = s.ctl by simp, hm]; rfl

/-- R154: a Survey Suspend in SURVEY. -/
theorem exec_surveySuspend (h : ReadyFor s p .surveySuspend f rest) :
    exec (.surveySuspend p) s =
      .next { answered s p f rest .accepted [] with survey := s.survey.takeSuspend s.now } := by
  show execSurveySuspend p s = _
  rw [execSurveySuspend, State.unlessReset_none _ h.1.1, State.serve_taken h (es := [])
    (u := { s.dequeue p rest with survey := s.survey.takeSuspend s.now }) (r := .accepted) (data := [])]
  · cases p <;> rfl
  · rw [surveyOnly_dequeue hm]; simp [accept]
  · rfl

/-- R154: a Survey Resume in SURVEY that has nothing to end, or finds fewer than two clear frames. -/
theorem exec_surveyResume_kept (h : ReadyFor s p .surveyResume f rest) {r : Reply}
    (hr : (s.survey.state = .running ∧ r = .accepted) ∨
      (s.survey.state = .suspended ∧ s.survey.clear < 2 ∧ r = .notReady)) :
    exec (.surveyResume p) s = .next (answered s p f rest r []) := by
  show execSurveyResume p s = _
  rw [execSurveyResume, State.unlessReset_none _ h.1.1, State.serve_answered h]
  rw [surveyOnly_dequeue hm]
  rcases hr with ⟨hs, rfl⟩ | ⟨hs, hc, rfl⟩
  · simp [hs, accept]
  · simp [hs, hc, refuse]

/-- R154: a Survey Resume that ends a suspension. -/
theorem exec_surveyResume_taken (h : ReadyFor s p .surveyResume f rest) (hs : s.survey.state = .suspended)
    (hc : 2 ≤ s.survey.clear) :
    exec (.surveyResume p) s = .next { answered s p f rest .accepted [] with survey := s.survey.resume } := by
  show execSurveyResume p s = _
  rw [execSurveyResume, State.unlessReset_none _ h.1.1, State.serve_taken h (es := [])
    (u := { s.dequeue p rest with survey := s.survey.resume }) (r := .accepted) (data := [])]
  · cases p <;> rfl
  · rw [surveyOnly_dequeue hm]
    simp [hs, Nat.not_lt.2 hc, accept]
  · rfl

end

/-- R155: a survey under way is aborted. -/
theorem State.abortSurvey_eq {s : State} (hs : s.survey.state ≠ .idle) (outcome : SurveyOutcome) :
    s.abortSurvey outcome = { s with
      survey := s.survey.drop outcome, ctl := { s.ctl with mode := .standby }
      links := linksWith s [.survey, .modeChanged] } := if_neg hs

/-- R155: a Survey Abort in SURVEY. -/
theorem exec_surveyAbort {s : State} {p : Partner} {f : Frame} {rest : List Frame} (hm : s.ctl.mode = .survey)
    (hs : s.survey.state ≠ .idle) (h : ReadyFor s p .surveyAbort f rest) :
    exec (.surveyAbort p) s = .next { s with
      survey := s.survey.drop .abortedRequest, ctl := { s.ctl with mode := .standby }
      links := linksAfter s p rest [.survey, .modeChanged] (responseTo f .accepted []) } := by
  show execSurveyAbort p s = _
  rw [execSurveyAbort, State.unlessReset_none _ h.1.1, State.serve_taken h (es := [.survey, .modeChanged])
    (u := (s.dequeue p rest).abortSurvey .abortedRequest) (r := .accepted) (data := [])]
  · rw [State.abortSurvey_eq (by simpa using hs)]
    cases p <;> rfl
  · rw [surveyOnly_dequeue hm]; rfl
  · rw [State.abortSurvey_eq (by simpa using hs)]

/-- R155: the suspend timer runs out. -/
theorem exec_suspendTimerExpiry {s : State} {d : Nat} (hr : s.resetting = none) (hs : s.survey.state ≠ .idle)
    (hd : s.survey.timer = some d) :
    exec .suspendTimerExpiry s = .next { s.elapseTo d with
      survey := s.survey.drop .abortedTimeout, ctl := { s.ctl with mode := .standby }
      links := linksWith s [.survey, .modeChanged] } := by
  show execSuspendTimerExpiry s = _
  rw [execSuspendTimerExpiry, State.unlessReset_none _ hr, hd, State.expire_some,
    State.abortSurvey_eq (by simpa using hs)]
  rfl

/-! ### The intake of a board report (R97) -/

/-- R99: the model's check is that of the statements. -/
theorem State.driveAfterStop_iff (s : State) (bd : Board) (r : BoardReport) :
    s.driveAfterStop bd r = true ↔ DrivesAfterStop s bd r := by
  simp [State.driveAfterStop, DrivesAfterStop, and_assoc]

/-- R97, R16: a report that shows no drive after a stop, taken outside showroom mode, is an intake. -/
theorem State.takeReport_intake {s : State} (h48 : s.coils.length = 48) {bd : Board} {r : BoardReport}
    (hd : ¬DrivesAfterStop s bd r) (hs : s.store.settings.showroom = false) :
    IntakeTaken (reportReading bd r) s (s.takeReport bd r) := by
  unfold State.takeReport
  dsimp only
  rw [← s.driveAfterStop_iff] at hd
  rw [if_neg hd, if_neg (by simp [hs])]
  exact intakeTaken_congr (s.intake_taken h48) .refl
    (((State.modPhase_stands _ _ _).trans (State.takeGenFields_stands _ _ _)).trans (State.modBoard_stands _ _ _))

/-- R180, R97: the part 1 of a report at the front is taken with its held part 0 as an intake. -/
theorem exec_report_intake {s : State} (h48 : s.coils.length = 48) {bd : Board} {f : Frame} {rest : List Frame}
    {r : BoardReport} (h : ReportReady s bd f rest r) (hd : ¬DrivesAfterStop s bd r)
    (hs : s.store.settings.showroom = false) :
    ∃ t, exec (.report bd) s = .next t ∧ IntakeTaken (reportReading bd r) s t := by
  obtain ⟨hready, hkind, hlen, hpart, samples, hheld, hr⟩ := h
  obtain ⟨q, hq⟩ : ∃ q, q = s.modLink (boardLinkId bd) (fun x => { x with queue := rest }) := ⟨_, rfl⟩
  obtain ⟨u, hu⟩ : ∃ u, u = q.modBoard bd (fun x => { x with held := none }) := ⟨_, rfl⟩
  have hqs : SurfaceStands s q := by rw [hq]; exact State.modBoardLink_stands _ _ _
  have hus : SurfaceStands s u := hqs.trans (by rw [hu]; exact State.modBoard_stands _ _ _)
  have hqb : q.board bd = s.board bd := by rw [hq]; exact State.board_congr (by simp) (by simp) bd
  have htake : exec (.report bd) s = .next (u.takeReport bd r) := by
    show execReport bd s = _
    rw [execReport, State.unlessReset_none _ hready.1, State.takeBoardFrame_ready hready hkind, ← hq, State.reportFrame,
      if_neg (by simp [hlen]), if_pos (by simp [hlen, hpart]), hqb, hheld]
    dsimp only
    rw [if_pos rfl, hu, hr]
  have hdrive : ¬DrivesAfterStop u bd r := by
    rw [hu, DrivesAfterStop, State.board_modBoard, hqb]; exact hd
  exact ⟨_, htake, intakeTaken_congr
    (State.takeReport_intake (by rw [hus.coils]; exact h48) hdrive (by rw [hus.settings]; exact hs)) hus .refl⟩

/-! ### The statement -/

/-- Settles O50: the requests and the expiry by their next states, the frame starts by the intake and the closing, and
the board report by the intake. -/
theorem surveysAreSuspendedAndEnded : Obligations.SurveysAreSuspendedAndEnded := by
  unfold Obligations.SurveysAreSuspendedAndEnded
  refine ⟨fun s p f rest hm => ⟨fun h => ⟨fun hs => ?_, fun hs => ?_⟩, fun h => ⟨fun hs => ?_, fun hs hc => ?_,
    fun hs hc => ?_⟩, ?_⟩, fun s h48 => ⟨s.frameStart_closed h48, s.frameStart_showroom h48,
    fun hshow hs hn hq => State.frameStart_frameStart_count h48 hshow hs hn hq,
    fun bd f rest r h hd hs => exec_report_intake h48 h hd hs⟩⟩
  · rw [exec_surveySuspend hm h, Survey.takeSuspend_running hs]; rfl
  · rw [exec_surveySuspend hm h, Survey.takeSuspend_suspended hs]
  · exact exec_surveyResume_kept hm h (.inl ⟨hs, rfl⟩)
  · exact exec_surveyResume_kept hm h (.inr ⟨hs, hc, rfl⟩)
  · exact exec_surveyResume_taken hm h hs hc
  · rintro hs survey outcome rfl
    refine ⟨?_, ?_⟩
    · rintro h rfl; exact exec_surveyAbort hm hs h
    · rintro d hr hd rfl; exact exec_suspendTimerExpiry hr hs hd

end Sys2Proof.Machine
end

section
/-! PROOFS. The expiries of a recall entry and of a boost (R52, R69). -/

namespace Sys2Proof.Machine

open Sys2Proof.Safety

section
variable (s : State)

/-- R52: the entry leaves the list as it stands; the time that passes until then does not touch it. -/
theorem State.elapseTo_eraseRecall (d i : Nat) :
    { s.elapseTo d with recalls := (s.elapseTo d).recalls.eraseIdx i } =
      { s.elapseTo d with recalls := s.recalls.eraseIdx i } := by rw [State.elapseTo_recalls]

/-- R69, R68: the end of a boost after the counting time `dt`. -/
theorem State.boostEnded_eq (dt n : Nat) :
    ((s.elapse dt).modPan n Pan.endBoost).capture .boostEnded = { s.elapse dt with
      pans := (s.elapse dt).pans.map (fun p => if p.number = n then p.endBoost else p)
      links := linksWith s [.boostEnded] } := rfl

variable {s}

theorem exec_recallExpiry (hr : s.resetting = none) {i : Nat} {e : RecallEntry} (he : s.recalls[i]? = some e) :
    exec (.recallExpiry i) s =
      .next { s.elapseTo (s.recallDeadline e) with recalls := s.recalls.eraseIdx i } := by
  show execRecallExpiry i s = _
  rw [execRecallExpiry, State.unlessReset_none _ hr, he]
  exact congrArg _ (s.elapseTo_eraseRecall _ i)

theorem exec_boostExpiry (hr : s.resetting = none) {n : Nat} {p : Pan} (hp : findPan s.pans n = some p)
    (hb : p.boostCounts s.levels.pause = true) :
    exec (.boostExpiry n) s = .next { s.elapse p.boostLeft with
      pans := (s.elapse p.boostLeft).pans.map (fun q => if q.number = n then q.endBoost else q)
      links := linksWith s [.boostEnded] } := by
  show execBoostExpiry n s = _
  rw [execBoostExpiry, State.unlessReset_none _ hr, hp]
  exact congrArg _ ((if_pos hb).trans (s.boostEnded_eq _ n))

end

/-- Settles O44. -/
theorem recallAndBoostExpire : Obligations.RecallAndBoostExpire := by
  intro s hr
  refine ⟨fun i e he => exec_recallExpiry hr he, fun n q hq hheat hboost hpause => exec_boostExpiry hr hq ?_⟩
  simp [Pan.boostCounts, hheat, hboost, hpause]

end Sys2Proof.Machine
end

section
/-! PROOFS. What every command keeps of the pan table, of the rest outside ACTIVE and of ACTIVE itself: the relations
between two states in which it is said, and the operations that stand aside from all three. -/

namespace Sys2Proof.Machine

open Sys2Proof.Safety

/-! ### What is kept -/

/-- R139, R147: the device is in ACTIVE, and nothing is under way that ACTIVE excludes: no survey, no START timer, no
reset. -/
structure Cooking (s : State) : Prop where
  mode : s.ctl.mode = .active
  survey : s.survey.state = .idle
  startTimer : s.ctl.startTimer = none
  resetting : s.resetting = none

theorem Cooking.of_modesAgree {s : State} (h : ModesAgree s) (hm : s.ctl.mode = .active) : Cooking s := by
  obtain ⟨hsurvey, hstart, hreset⟩ := h
  simp only [hm, reduceCtorEq, imp_false, false_iff, ne_eq, not_not, Bool.not_eq_true, Option.isSome_eq_false_iff,
    Option.isNone_iff_eq_none] at hsurvey hstart hreset
  exact ⟨hm, hsurvey, hstart, hreset⟩

/-- R73: a pan at level 0, not heating and without a boost. -/
def PanOff (p : Pan) : Prop := p.level = 0 ∧ p.state ≠ .heating ∧ p.boost = none

/-- R73, R64, R72: the Level Unit at rest, whatever the demand order. -/
def LevelsOff (l : Levels) : Prop := l.pause = false ∧ l.pauseTimer = none ∧ l.permit = .off ∧ l.autoOff = none

/-- R73, R53: the pans, the recall list and the Level Unit at rest. -/
structure AtRest (s : State) : Prop where
  pans : ∀ p ∈ s.pans, PanOff p
  recalls : s.recalls = []
  levels : LevelsOff s.levels

theorem restsOutsideActive_iff {s : State} : RestsOutsideActive s ↔ (s.ctl.mode ≠ .active → AtRest s) :=
  forall_congr' fun _ => ⟨fun ⟨hp, hr, hl⟩ => ⟨hp, hr, hl⟩, fun ⟨hp, hr, hl⟩ => ⟨hp, hr, hl⟩⟩

/-- The device is outside ACTIVE and at rest. -/
structure Resting (s : State) : Prop extends AtRest s where
  mode : s.ctl.mode ≠ .active

/-- What a command that neither enters nor leaves ACTIVE, and begins no reset, keeps: the pan table sound, the device
at rest outside ACTIVE, and ACTIVE. -/
structure Keeps (s t : State) : Prop where
  table : TableSound s → TableSound t
  rest : Resting s → Resting t
  cooking : Cooking s → Cooking t

theorem Keeps.refl {s : State} : Keeps s s := ⟨id, id, id⟩

theorem Keeps.trans {s t u : State} (h : Keeps s t) (h' : Keeps t u) : Keeps s u :=
  ⟨h'.table ∘ h.table, h'.rest ∘ h.rest, h'.cooking ∘ h.cooking⟩

/-! ### The pan table (R34, R38, R67) -/

/-- Table 3-1: a list of generators, ascending. -/
def GensSound (gens : List Nat) : Prop := gens.Pairwise (· < ·) ∧ ∀ g ∈ gens, g < 8

theorem gensSound_nil : GensSound [] := ⟨.nil, by simp⟩

/-- Table 3-1: a list of coils, ascending and not empty. -/
def FootprintSound (footprint : List Nat) : Prop :=
  footprint ≠ [] ∧ footprint.Pairwise (· < ·) ∧ ∀ c ∈ footprint, c < 48

theorem panSound_iff {p : Pan} : PanSound p ↔ FootprintSound p.footprint ∧ GensSound p.gens := by
  simp only [PanSound, FootprintSound, GensSound, and_assoc]

/-- A pan keeps its number and its footprint, and its generators stay sound. -/
structure PlaceKept (p q : Pan) : Prop where
  number : q.number = p.number
  footprint : q.footprint = p.footprint
  gens : GensSound p.gens → GensSound q.gens

theorem PlaceKept.refl (p : Pan) : PlaceKept p p := ⟨rfl, rfl, id⟩

/-- Records that keep their places one by one, in two lists. -/
theorem forall₂_map_self {α : Type} {R : α → α → Prop} {f : α → α} {l : List α} (h : ∀ x ∈ l, R x (f x)) :
    List.Forall₂ R l (l.map f) := List.forall₂_map_right_iff.2 (List.forall₂_same.2 h)

theorem forall₂_of_eq {α : Type} {R : α → α → Prop} (hr : ∀ x, R x x) {l l' : List α} (h : l' = l) :
    List.Forall₂ R l l' := h ▸ List.forall₂_same.2 fun x _ => hr x

theorem exists_left_of_forall₂ {α : Type} {R : α → α → Prop} {l l' : List α} (h : List.Forall₂ R l l') {y : α}
    (hy : y ∈ l') : ∃ x ∈ l, R x y := by
  induction h with
  | nil => simp at hy
  | cons hxy _ ih =>
    rcases List.mem_cons.1 hy with rfl | hy
    · exact ⟨_, by simp, hxy⟩
    · obtain ⟨x, hx, hr⟩ := ih hy; exact ⟨x, by simp [hx], hr⟩

theorem map_eq_of_forall₂ {α β : Type} {R : α → α → Prop} {f : α → β} (hf : ∀ x y, R x y → f y = f x)
    {l l' : List α} (h : List.Forall₂ R l l') : l'.map f = l.map f := by
  induction h with
  | nil => rfl
  | cons hxy _ ih => simp [hf _ _ hxy, ih]

theorem toFront_perm {n : Nat} {order : List Nat} (hn : n ∈ order) (hd : order.Nodup) :
    (toFront n order).Perm order := by
  have he : toFront n order = n :: order.erase n := by
    rw [hd.erase_eq_filter n, toFront]; congr 1; exact List.filter_congr fun x _ => by by_cases hx : x = n <;> simp [hx]
  exact he ▸ (List.perm_cons_erase hn).symm

/-- How the pans, the demand order and the recall list may change without harm to the table: no pan comes or goes, a
pan of the table may go to the front of the demand order, and recall entries may go. -/
structure TableKept (s t : State) : Prop where
  pans : List.Forall₂ PlaceKept s.pans t.pans
  demand : t.levels.demand = s.levels.demand ∨ ∃ n ∈ panNumbers s, t.levels.demand = toFront n s.levels.demand
  recalls : t.recalls.length ≤ s.recalls.length

/-- A sound table, told by a function that gives every coil of a footprint its pan's number: so no coil lies in two
footprints. -/
structure TableOwned (own : Nat → Option Nat) (s : State) : Prop where
  ascending : (panNumbers s).Pairwise (· < ·)
  numbers : ∀ n ∈ panNumbers s, 1 ≤ n ∧ n ≤ 6
  pans : ∀ p ∈ s.pans, PanSound p
  owned : ∀ p ∈ s.pans, ∀ c ∈ p.footprint, own c = some p.number
  demand : s.levels.demand.Perm (panNumbers s)
  recalls : s.recalls.length ≤ 4

/-- The number of the pan in whose footprint a coil lies. -/
def ownerOf (pans : List Pan) (c : Nat) : Option Nat :=
  (pans.find? (fun p => p.footprint.contains c)).map (fun p => p.number)

/-- Of things whose coils are disjoint, the first that holds a coil is the one that holds it. -/
theorem find?_of_disjoint {α : Type} (coils : α → List Nat) {l : List α}
    (hd : l.Pairwise (fun x y => ∀ c ∈ coils x, c ∉ coils y)) {x : α} (hx : x ∈ l) {c : Nat} (hc : c ∈ coils x) :
    l.find? (fun y => (coils y).contains c) = some x := by
  induction l with
  | nil => simp at hx
  | cons y rest ih =>
    obtain ⟨hy, hrest⟩ := List.pairwise_cons.1 hd
    rcases List.mem_cons.1 hx with rfl | hx
    · simp [hc]
    · have hcy : c ∉ coils y := fun h => hy x hx c h hc
      simpa [List.find?_cons, hcy] using ih hrest hx

theorem ownerOf_of_mem {pans : List Pan} (hd : pans.Pairwise (fun p q => ∀ c ∈ p.footprint, c ∉ q.footprint))
    {p : Pan} (hp : p ∈ pans) {c : Nat} (hc : c ∈ p.footprint) : ownerOf pans c = some p.number := by
  rw [ownerOf, find?_of_disjoint Pan.footprint hd hp hc]; rfl

theorem TableOwned.sound {own : Nat → Option Nat} {s : State} (h : TableOwned own s) : TableSound s := by
  refine ⟨h.ascending, h.numbers, h.pans, ?_, h.demand, h.recalls⟩
  refine (List.pairwise_map.1 h.ascending).imp_of_mem fun hp hq hlt c hcp hcq => ?_
  have heq := (h.owned _ hp c hcp).symm.trans (h.owned _ hq c hcq)
  exact absurd (Option.some.inj heq) (Nat.ne_of_lt hlt)

theorem TableSound.owned {s : State} (h : TableSound s) : TableOwned (ownerOf s.pans) s := by
  obtain ⟨hasc, hnum, hpan, hdis, hperm, hrec⟩ := h
  exact ⟨hasc, hnum, hpan, fun _ hp _ hc => ownerOf_of_mem hdis hp hc, hperm, hrec⟩

theorem TableOwned.kept {own : Nat → Option Nat} {s t : State} (hs : TableOwned own s) (h : TableKept s t) :
    TableOwned own t := by
  have hnums : panNumbers t = panNumbers s := map_eq_of_forall₂ (fun _ _ hk => hk.number) h.pans
  have hpans : ∀ q ∈ t.pans, PanSound q ∧ ∀ c ∈ q.footprint, own c = some q.number := fun q hq => by
    obtain ⟨p, hp, hk⟩ := exists_left_of_forall₂ h.pans hq
    have hps := panSound_iff.1 (hs.pans p hp)
    refine ⟨panSound_iff.2 ⟨hk.footprint ▸ hps.1, hk.gens hps.2⟩, ?_⟩
    rw [hk.footprint, hk.number]; exact hs.owned p hp
  refine ⟨hnums ▸ hs.ascending, hnums ▸ hs.numbers, fun q hq => (hpans q hq).1, fun q hq => (hpans q hq).2, ?_,
    h.recalls.trans hs.recalls⟩
  rw [hnums]
  obtain hd | ⟨n, hn, hd⟩ := h.demand
  · exact hd ▸ hs.demand
  · have hnd : s.levels.demand.Nodup := hs.demand.nodup_iff.2 (hs.ascending.imp Nat.ne_of_lt)
    exact hd ▸ (toFront_perm (hs.demand.mem_iff.2 hn) hnd).trans hs.demand

theorem TableKept.sound {s t : State} (h : TableKept s t) (hs : TableSound s) : TableSound t :=
  ((TableSound.owned hs).kept h).sound

/-! ### What stands aside -/

/-- A pan keeps all but its figures, its boost's count, and its generators, which stay sound. -/
structure PanKept (p q : Pan) : Prop extends PlaceKept p q where
  level : q.level = p.level
  state : q.state = p.state
  boost : q.boost.isSome = p.boost.isSome

theorem PanKept.refl (p : Pan) : PanKept p p := ⟨.refl p, rfl, rfl, rfl⟩

theorem PanKept.trans {p q r : Pan} (h : PanKept p q) (h' : PanKept q r) : PanKept p r :=
  ⟨⟨h'.number.trans h.number, h'.footprint.trans h.footprint, h'.gens ∘ h.gens⟩, h'.level.trans h.level,
    h'.state.trans h.state, h'.boost.trans h.boost⟩

theorem PanKept.off {p q : Pan} (h : PanKept p q) (hp : PanOff p) : PanOff q := by
  obtain ⟨hl, hs, hb⟩ := hp
  refine ⟨h.level.trans hl, h.state ▸ hs, ?_⟩
  simpa [hb] using h.boost

/-- From `s` to `t` the pan table and the levels stand, but for the pans' figures and the recall entries that go; the
mode may change outside ACTIVE alone. -/
structure Aside (s t : State) : Prop where
  pans : List.Forall₂ PanKept s.pans t.pans
  recalls : t.recalls.Sublist s.recalls
  levels : t.levels = s.levels
  mode : s.ctl.mode ≠ .active → t.ctl.mode ≠ .active
  cooking : Cooking s → Cooking t

theorem Aside.refl {s : State} : Aside s s :=
  ⟨forall₂_of_eq .refl rfl, .refl _, rfl, id, id⟩

theorem forall₂_trans {α : Type} {R S T : α → α → Prop} (h : ∀ x y z, R x y → S y z → T x z) {l m n : List α}
    (hlm : List.Forall₂ R l m) (hmn : List.Forall₂ S m n) : List.Forall₂ T l n := by
  induction hlm generalizing n with
  | nil => cases hmn; exact .nil
  | cons hxy _ ih => cases hmn with | cons hyz hmn => exact .cons (h _ _ _ hxy hyz) (ih hmn)

theorem Aside.trans {s t u : State} (h : Aside s t) (h' : Aside t u) : Aside s u where
  pans := forall₂_trans (R := PanKept) (S := PanKept) (T := PanKept) (fun _ _ _ => PanKept.trans) h.pans h'.pans
  recalls := h'.recalls.trans h.recalls
  levels := h'.levels.trans h.levels
  mode := h'.mode ∘ h.mode
  cooking := h'.cooking ∘ h.cooking

theorem Aside.after {s t u : State} (h' : Aside t u) (h : Aside s t) : Aside s u := h.trans h'

theorem Aside.table {s t : State} (h : Aside s t) : TableKept s t :=
  ⟨h.pans.imp fun _ _ hk => hk.toPlaceKept, .inl (by rw [h.levels]), h.recalls.length_le⟩

theorem Aside.atRest {s t : State} (h : Aside s t) (hs : AtRest s) : AtRest t where
  pans q hq := by
    obtain ⟨p, hp, hk⟩ := exists_left_of_forall₂ h.pans hq
    exact hk.off (hs.pans p hp)
  recalls := List.sublist_nil.1 (hs.recalls ▸ h.recalls)
  levels := h.levels ▸ hs.levels

theorem Aside.keeps {s t : State} (h : Aside s t) : Keeps s t where
  table := h.table.sound
  rest hs := ⟨h.atRest hs.toAtRest, h.mode hs.mode⟩
  cooking := h.cooking

/-- Where the pans change field by field, the rest and the mode standing. -/
theorem Aside.of_pans {s t : State} (hp : List.Forall₂ PanKept s.pans t.pans)
    (hr : t.recalls = s.recalls := by simp) (hl : t.levels = s.levels := by simp) (hc : t.ctl = s.ctl := by simp)
    (hv : s.survey.state = .idle → t.survey.state = .idle := by simp)
    (hx : t.resetting = s.resetting := by simp) : Aside s t where
  pans := hp
  recalls := by rw [hr]
  levels := hl
  mode := by rw [hc]; exact id
  cooking h := ⟨hc ▸ h.mode, hv h.survey, hc ▸ h.startTimer, hx ▸ h.resetting⟩

/-- Where pans, levels and mode stand. -/
theorem Aside.of_eq {s t : State} (hp : t.pans = s.pans := by simp) (hr : t.recalls = s.recalls := by simp)
    (hl : t.levels = s.levels := by simp) (hc : t.ctl = s.ctl := by simp)
    (hv : s.survey.state = .idle → t.survey.state = .idle := by simp)
    (hx : t.resetting = s.resetting := by simp) : Aside s t :=
  .of_pans (forall₂_of_eq .refl hp) hr hl hc hv hx

/-- Where pans and levels stand and the mode changes, something being under way that ACTIVE excludes. -/
theorem Aside.of_mode {s t : State} (hs : ¬Cooking s) (hm : s.ctl.mode ≠ .active → t.ctl.mode ≠ .active)
    (hp : t.pans = s.pans := by simp) (hr : t.recalls = s.recalls := by simp)
    (hl : t.levels = s.levels := by simp) : Aside s t where
  pans := forall₂_of_eq .refl hp
  recalls := by rw [hr]
  levels := hl
  mode := hm
  cooking h := absurd h hs

/-! ### Time, the survey and the modes -/

section
variable (s : State)

@[simp] theorem State.setMode_mode (m : Mode) : (s.setMode m).ctl.mode = m := rfl

theorem State.elapse_aside (dt : Nat) : Aside s (s.elapse dt) := by
  obtain ⟨f, hf, hk⟩ := s.elapse_pans dt
  refine .of_pans ?_
  rw [hf]
  refine forall₂_map_self fun p _ => ?_
  obtain ⟨b, n, hp, hb⟩ := hk p
  rw [hp]
  exact ⟨⟨rfl, rfl, id⟩, rfl, rfl, hb⟩

theorem State.elapseTo_aside (t : Nat) : Aside s (s.elapseTo t) := s.elapse_aside _

theorem State.abortSurvey_aside (o : SurveyOutcome) : Aside s (s.abortSurvey o) := by
  by_cases h : s.survey.state = .idle
  · rw [State.abortSurvey, if_pos h]; exact .refl
  · refine .of_mode (fun hc => h hc.survey) fun _ => ?_
    rw [State.abortSurvey, if_neg h]; simp

theorem State.judgeStart_aside : Aside s s.judgeStart := by
  unfold State.judgeStart State.startDone
  split
  · rename_i h
    refine .of_mode (fun hc => ?_) (fun _ => by simp)
    simp [hc.mode] at h
  · exact .refl

theorem State.intake_aside (reading : Nat → Option Reading) : Aside s (s.intake reading) :=
  .of_eq (hv := fun h => by rw [State.intake_survey, Survey.handCoils_idle h]; exact h)

theorem State.closeRunning_mode : s.closeRunning.ctl.mode = s.ctl.mode ∨ s.closeRunning.ctl.mode = .standby := by
  unfold State.closeRunning
  dsimp only
  split
  · exact .inr rfl
  · exact .inl (by simp)

theorem State.surveyClose_aside : Aside s s.surveyClose := by
  unfold State.surveyClose
  split
  · exact .refl
  · rename_i h
    refine .of_mode (fun hc => by simp [hc.survey] at h) fun hm => ?_
    rcases s.closeRunning_mode with hc | hc <;> rw [hc] <;> [exact hm; decide]
  · rename_i h
    exact .of_mode (fun hc => by simp [hc.survey] at h) (by simp)

/-! ### The frame start (R12, R30, R116) -/

/-- R116: the pans after the share computation: each with its figures. -/
theorem State.shareComputation_pans :
    ∃ grants plans, s.shareComputation.pans = s.pans.map (s.panFigures grants plans) := by
  unfold State.shareComputation
  refine ⟨s.grants, (s.phaseCheck .b (s.phaseCheck .a (s.firstPlans s.grants)).1).1, ?_⟩
  simp

theorem State.shareComputation_aside : Aside s s.shareComputation := by
  obtain ⟨grants, plans, hp⟩ := s.shareComputation_pans
  refine .of_pans ?_
  rw [hp]
  exact forall₂_map_self fun p _ => ⟨⟨rfl, rfl, id⟩, rfl, rfl, rfl⟩

theorem State.intakeAndClose_aside : Aside s s.intakeAndClose := by
  unfold State.intakeAndClose State.showroomIntake
  (repeat' split)
  · exact s.intake_aside _
  · exact s.surveyClose_aside.trans (State.intake_aside _ _)
  · exact (s.intake_aside _).trans (State.surveyClose_aside _)
  · exact s.surveyClose_aside

theorem State.frameStart_aside : Aside s s.frameStart :=
  (State.shareComputation_aside _).after (s.startPhases.intakeAndClose_aside.after .of_eq)

theorem State.freeFrame_aside : Aside s s.freeFrame := (State.frameStart_aside _).after .of_eq

theorem State.syncedFrame_aside : Aside s s.syncedFrame := (State.frameStart_aside _).after .of_eq

theorem State.freeExpired_aside : Aside s s.freeExpired := by
  unfold State.freeExpired
  split
  · exact .of_eq
  · exact s.freeFrame_aside

/-! ### Boards, route and HALT -/

theorem State.openImage_aside : Aside s s.openImage :=
  .of_pans (forall₂_map_self fun _ _ => ⟨⟨rfl, rfl, fun _ => gensSound_nil⟩, rfl, rfl, rfl⟩)

theorem State.assignment_aside : Aside s s.assignment := by
  refine .of_pans ?_
  have hp : s.assignment.pans = s.pans.map (assignPan s.newServing) := by unfold State.assignment; simp
  rw [hp]
  refine forall₂_map_self fun p _ => ⟨⟨rfl, rfl, fun _ => ⟨?_, fun g hg => ?_⟩⟩, rfl, rfl, rfl⟩
  · exact List.pairwise_lt_range.filter _
  · exact List.mem_range.1 (List.mem_filter.1 hg).1

theorem State.tryOperation_aside : Aside s s.tryOperation := .of_eq

theorem State.openAndRoute_aside : Aside s s.openAndRoute := s.openImage_aside.trans (State.tryOperation_aside _)

theorem State.routeTracking_aside : Aside s s.routeTracking := by
  unfold State.routeTracking
  split
  · exact s.assignment_aside.trans (State.tryOperation_aside _)
  · exact .refl
  all_goals exact s.openAndRoute_aside

theorem State.boardLost_aside (bd : Board) : Aside s (s.boardLost bd) := by
  unfold State.boardLost
  dsimp only
  split
  · exact .of_eq
  · exact (State.abortSurvey_aside _ _).after .of_eq

theorem State.boardReturns_aside (bd : Board) : Aside s (s.boardReturns bd) := by
  unfold State.boardReturns
  exact (State.judgeStart_aside _).after .of_eq

theorem State.enqueue_aside (l : Link) (f : Frame) : Aside s (s.enqueue l f) := .of_eq

theorem State.boardArrival_aside (bd : Board) (f : Frame) : Aside s (s.boardArrival bd f) := by
  have hj : Aside s (s.modLink (boardLinkId bd) (LinkRec.makePresent (boardLinkId bd) s.now)).judgeStart :=
    (State.judgeStart_aside _).after .of_eq
  unfold State.boardArrival
  dsimp only
  (repeat' split)
  · exact hj.trans (State.enqueue_aside _ _ _)
  · exact hj
  · exact (s.boardReturns_aside bd).trans (State.enqueue_aside _ _ _)
  · exact .refl

theorem State.boardExpiry_aside (bd : Board) : Aside s (s.boardExpiry bd) := by
  unfold State.boardExpiry
  split
  · exact (State.judgeStart_aside _).after .of_eq
  · exact (s.boardLost_aside bd).trans (State.judgeStart_aside _)
  all_goals exact .refl

/-- R138: the START timer runs only in START, so its expiry is none of ACTIVE. -/
theorem State.startExpired_aside (h : s.ctl.startTimer ≠ none) : Aside s s.startExpired :=
  .of_mode (fun hc => h hc.startTimer) (fun _ => by simp [State.startExpired])

theorem State.routeHalt_aside : Aside s s.routeHalt := by
  by_cases h : s.route.stage = .halted
  · rw [State.routeHalt, if_pos h]; exact .refl
  · refine .of_pans ?_
    have hp : s.routeHalt.pans = s.openImage.pans := by rw [State.routeHalt, if_neg h]; simp
    rw [hp]; exact s.openImage_aside.pans

theorem State.modeToHalt_aside (h : s.ctl.mode ≠ .active) : Aside s s.modeToHalt := by
  have hs : ¬Cooking s := fun hc => h hc.mode
  unfold State.modeToHalt
  split
  · exact absurd ‹_› h
  · exact .of_mode hs (by simp)
  · exact .of_mode hs (by simp)
  · exact .of_mode hs (by simp)
  · exact .refl

/-- R145 outside ACTIVE: the mode becomes HALT, and the desired image opens. -/
theorem State.enterHalt_aside (h : s.ctl.mode ≠ .active) (cause : HaltCause) : Aside s (s.enterHalt cause) := by
  unfold State.enterHalt
  split
  · exact .refl
  · have hm : s.modeToHalt.ctl.mode ≠ .active := (s.modeToHalt_aside h).mode h
    refine (State.routeHalt_aside _).after (.after (.of_mode (fun hc => hm hc.mode) (by simp)) (s.modeToHalt_aside h))

theorem State.settleExpired_aside : Aside s s.settleExpired := .of_eq

theorem State.haltShiftComplete_aside : Aside s s.haltShiftComplete := .of_eq

end

end Sys2Proof.Machine
end

section
/-! PROOFS. What the tracking pass keeps: the pan table sound, whatever its attribution finds (R34 to R45, R49 to R51),
and the device at rest outside ACTIVE. -/

namespace Sys2Proof.Machine

open Sys2Proof.Safety

/-! ### Records rewritten, removed and lifted -/

section
variable {own : Nat → Option Nat} {s : State}

/-- A record may be rewritten under its number, with a footprint of coils that are its own. -/
theorem TableOwned.modPan (h : TableOwned own s) {n : Nat} {f : Pan → Pan}
    (hf : ∀ p ∈ s.pans, p.number = n → (f p).number = n ∧ PanSound (f p) ∧ ∀ c ∈ (f p).footprint, own c = some n) :
    TableOwned own (s.modPan n f) := by
  have hnums : panNumbers (s.modPan n f) = panNumbers s := by
    simp only [panNumbers, State.modPan_pans, List.map_map]
    refine List.map_congr_left fun p hp => ?_
    by_cases hn : p.number = n
    · simp [hn, (hf p hp hn).1]
    · simp [hn]
  have hpans : ∀ q ∈ (s.modPan n f).pans, PanSound q ∧ ∀ c ∈ q.footprint, own c = some q.number := fun q hq => by
    obtain ⟨p, hp, rfl⟩ := List.mem_map.1 hq
    by_cases hn : p.number = n
    · simp only [if_pos hn, (hf p hp hn).1]; exact (hf p hp hn).2
    · simp only [if_neg hn]; exact ⟨h.pans p hp, h.owned p hp⟩
  exact ⟨hnums ▸ h.ascending, hnums ▸ h.numbers, fun q hq => (hpans q hq).1, fun q hq => (hpans q hq).2,
    hnums ▸ h.demand, h.recalls⟩

theorem TableOwned.removePan (h : TableOwned own s) (n : Nat) : TableOwned own (s.removePan n) := by
  have hnums : panNumbers (s.removePan n) = (panNumbers s).filter (· ≠ n) := by
    simp only [panNumbers, State.removePan, List.filter_map]; rfl
  have hsub : ∀ p ∈ (s.removePan n).pans, p ∈ s.pans := fun p hp => (List.mem_filter.1 hp).1
  refine ⟨hnums ▸ h.ascending.filter _, fun m hm => ?_, fun p hp => h.pans p (hsub p hp),
    fun p hp => h.owned p (hsub p hp), hnums ▸ h.demand.filter _, h.recalls⟩
  rw [hnums] at hm
  exact h.numbers m (List.mem_filter.1 hm).1

/-- The recall list may change, to no more than four entries. -/
theorem TableOwned.withRecalls (h : TableOwned own s) {rs : List RecallEntry} (hr : rs.length ≤ 4) :
    TableOwned own { s with recalls := rs } := ⟨h.ascending, h.numbers, h.pans, h.owned, h.demand, hr⟩

theorem pushRecall_length (e : RecallEntry) (list : List RecallEntry) : (pushRecall e list).length ≤ 4 := by
  simp [pushRecall]

theorem TableOwned.capture (h : TableOwned own s) (e : Event) : TableOwned own (s.capture e) :=
  ⟨h.ascending, h.numbers, h.pans, h.owned, h.demand, h.recalls⟩

theorem TableOwned.captureAll (h : TableOwned own s) (es : List Event) : TableOwned own (s.captureAll es) := by
  rw [State.captureAll_eq]; exact ⟨h.ascending, h.numbers, h.pans, h.owned, h.demand, h.recalls⟩

theorem TableOwned.liftPan (h : TableOwned own s) (p : Pan) : TableOwned own (s.liftPan p) := by
  unfold State.liftPan
  dsimp only
  split
  · exact ((h.removePan _).withRecalls (pushRecall_length _ _)).capture _
  · exact (h.removePan _).capture _

/-- R41 to R45: a pan not found is removed, lifted, or MISSING with coils of its own. -/
theorem TableOwned.notFound (h : TableOwned own s) {p : Pan} (hp : FootprintSound p.footprint)
    (hown : ∀ c ∈ p.footprint, own c = some p.number) : TableOwned own (s.notFound p) := by
  have hsub : (s.keptCoils p).Sublist p.footprint := List.filter_sublist
  obtain ⟨-, hasc, h48⟩ := hp
  unfold State.notFound
  split
  · exact h.removePan _
  · exact h.liftPan p
  all_goals
    split
    · exact h.liftPan p
    · rename_i hne
      have hfoot : FootprintSound (s.keptCoils p) :=
        ⟨by simpa using hne, hasc.sublist hsub, fun c hc => h48 c (hsub.subset hc)⟩
      exact h.modPan fun q hq hn => ⟨hn, panSound_iff.2 ⟨hfoot, (panSound_iff.1 (h.pans q hq)).2⟩,
        fun c hc => hown c (hsub.subset hc)⟩

end

/-! ### The pass over the records (R35, R38) -/

theorem mem_newFootprint {attr : List (Option Nat)} {n c : Nat} (h : c ∈ newFootprint attr n) :
    c < 48 ∧ (attr[c]?).getD none = some n := by
  simpa [newFootprint, coilIds] using h

theorem newFootprint_sound {attr : List (Option Nat)} {n : Nat} (h : newFootprint attr n ≠ []) :
    FootprintSound (newFootprint attr n) :=
  ⟨h, List.pairwise_lt_range.filter _, fun _ hc => (mem_newFootprint hc).1⟩

/-- Whose a coil is through a pass: the pan's it is attributed to, and otherwise the pan's in whose footprint it lay. -/
def passOwner (pans : List Pan) (attr : List (Option Nat)) (c : Nat) : Option Nat :=
  ((attr[c]?).getD none).or (ownerOf pans c)

theorem attribution_getElem? (pans : List Pan) (comps : List (List Nat)) {c : Nat} (hc : c < 48) :
    ((attribution pans comps)[c]?).getD none =
      (comps.find? (fun comp => comp.contains c)).bind (fun comp => attributedIn pans comp c) := by
  simp only [attribution, coilIds, List.getElem?_map, List.getElem?_range hc, Option.map_some, Option.getD_some]
  cases comps.find? (fun comp => comp.contains c) <;> rfl

/-- R38: a coil of a pan's footprint is attributed to that pan, or to none. -/
theorem attribution_of_mem {pans : List Pan} (hd : pans.Pairwise (fun p q => ∀ c ∈ p.footprint, c ∉ q.footprint))
    (comps : List (List Nat)) {p : Pan} (hp : p ∈ pans) {c n : Nat} (hc : c ∈ p.footprint) (hc48 : c < 48)
    (h : ((attribution pans comps)[c]?).getD none = some n) : n = p.number := by
  rw [attribution_getElem? pans comps hc48] at h
  obtain ⟨comp, -, hattr⟩ := Option.bind_eq_some_iff.1 h
  simp only [attributedIn, find?_of_disjoint Pan.footprint hd hp hc] at hattr
  exact (Option.some.inj hattr).symm

theorem passOwner_of_mem {pans : List Pan} (hd : pans.Pairwise (fun p q => ∀ c ∈ p.footprint, c ∉ q.footprint))
    (comps : List (List Nat)) {p : Pan} (hp : p ∈ pans) {c : Nat} (hc : c ∈ p.footprint) (hc48 : c < 48) :
    passOwner pans (attribution pans comps) c = some p.number := by
  unfold passOwner
  cases ha : ((attribution pans comps)[c]?).getD none with
  | none => exact ownerOf_of_mem hd hp hc
  | some n => rw [attribution_of_mem hd comps hp hc hc48 ha]; rfl

/-- What of a found pan's record the table looks at. -/
theorem State.foundPan_place (s : State) (footprint : List Nat) (p : Pan) :
    (s.foundPan footprint p).1.number = p.number ∧ (s.foundPan footprint p).1.footprint = footprint ∧
      (s.foundPan footprint p).1.gens = p.gens := by
  unfold State.foundPan
  dsimp only
  (repeat' split) <;> exact ⟨rfl, rfl, rfl⟩

/-- R35 step 3 for one record: it keeps its number, and its coils are its own. -/
theorem TableOwned.passPan {pans : List Pan} {attr : List (Option Nat)} {s : State}
    (h : TableOwned (passOwner pans attr) s) {p : Pan} (hp : PanSound p)
    (hown : ∀ c ∈ p.footprint, passOwner pans attr c = some p.number) :
    TableOwned (passOwner pans attr) (s.passPan attr p) := by
  obtain ⟨hfoot, hgens⟩ := panSound_iff.1 hp
  unfold State.passPan
  dsimp only
  split
  · exact h.notFound hfoot hown
  · rename_i hne
    obtain ⟨hn, hf, hg⟩ := s.foundPan_place (newFootprint attr p.number) p
    refine (h.modPan fun q _ _ => ⟨hn, panSound_iff.2 ⟨?_, hg ▸ hgens⟩, ?_⟩).captureAll _
    · rw [hf]; exact newFootprint_sound (by simpa using hne)
    · rw [hf]; exact fun c hc => by rw [passOwner, (mem_newFootprint hc).2, Option.some_or]

theorem TableOwned.passPans {pans : List Pan} {attr : List (Option Nat)} {l : List Pan}
    (hl : ∀ p ∈ l, PanSound p ∧ ∀ c ∈ p.footprint, passOwner pans attr c = some p.number) {s : State}
    (h : TableOwned (passOwner pans attr) s) :
    TableOwned (passOwner pans attr) (l.foldl (State.passPan attr) s) := by
  induction l generalizing s with
  | nil => exact h
  | cons p rest ih =>
    obtain ⟨hp, hown⟩ := hl p (by simp)
    exact ih (fun q hq => hl q (by simp [hq])) (h.passPan hp hown)

/-! ### The recall check (R50, R51) -/

theorem takeFitting_length {size : Nat} {list rest : List RecallEntry} {e : RecallEntry}
    (h : takeFitting size list = some (e, rest)) : rest.length < list.length := by
  induction list generalizing rest with
  | nil => simp [takeFitting] at h
  | cons x xs ih =>
    unfold takeFitting at h
    split at h
    · simp only [Option.some.injEq, Prod.mk.injEq] at h
      rw [← h.2]; simp
    · obtain ⟨⟨e', rest'⟩, hr, he⟩ := Option.map_eq_some_iff.1 h
      simp only [Prod.mk.injEq] at he
      have := ih (he.1 ▸ hr)
      rw [← he.2]; simpa using this

theorem mem_panNumbers {s : State} {n : Nat} {p : Pan} (h : findPan s.pans n = some p) : n ∈ panNumbers s :=
  List.mem_map.2 ⟨p, findPan_some h⟩

/-- A record rewritten in place, its generators standing. -/
theorem forall₂_modPan {R : Pan → Pan → Prop} (hr : ∀ p, R p p) (s : State) (n : Nat) {f : Pan → Pan}
    (hf : ∀ p, R p (f p)) : List.Forall₂ R s.pans (s.modPan n f).pans :=
  forall₂_map_self fun p _ => by split <;> [exact hf p; exact hr p]

theorem State.recallCheck_table (s : State) (n : Nat) : TableKept s (s.recallCheck n) := by
  have hrefl : TableKept s s := Aside.refl.table
  unfold State.recallCheck
  split
  · exact hrefl
  · rename_i p hp
    split
    · split
      · exact hrefl
      · rename_i e rest hfit
        exact ⟨forall₂_modPan .refl s n fun _ => ⟨rfl, rfl, id⟩, .inr ⟨n, mem_panNumbers hp, rfl⟩,
          (takeFitting_length hfit).le⟩
    · exact hrefl

theorem TableOwned.recallChecks {own : Nat → Option Nat} (l : List Nat) {s : State} (h : TableOwned own s) :
    TableOwned own (l.foldl State.recallCheck s) := by
  induction l generalizing s with
  | nil => exact h
  | cons n rest ih => exact ih (h.kept (s.recallCheck_table n))

/-! ### Candidates (R40) -/

theorem insertPan_perm (p : Pan) (pans : List Pan) : (insertPan p pans).Perm (p :: pans) := by
  induction pans with
  | nil => exact .refl _
  | cons q rest ih =>
    unfold insertPan
    split
    · exact .refl _
    · exact (ih.cons q).trans (.swap p q rest)

theorem insertPan_ascending {p : Pan} {pans : List Pan} (h : pans.Pairwise (fun a b => a.number < b.number))
    (hp : ∀ q ∈ pans, q.number ≠ p.number) : (insertPan p pans).Pairwise (fun a b => a.number < b.number) := by
  induction pans with
  | nil => simp [insertPan]
  | cons q rest ih =>
    obtain ⟨hq, hrest⟩ := List.pairwise_cons.1 h
    unfold insertPan
    split
    · rename_i hlt
      refine List.pairwise_cons.2 ⟨fun r hr => ?_, h⟩
      rcases List.mem_cons.1 hr with rfl | hr
      · exact hlt
      · exact hlt.trans (hq r hr)
    · rename_i hge
      refine List.pairwise_cons.2 ⟨fun r hr => ?_, ih hrest fun r hr => hp r (by simp [hr])⟩
      rcases List.mem_cons.1 ((insertPan_perm p rest).mem_iff.1 hr) with rfl | hr
      · exact lt_of_le_of_ne (Nat.not_lt.1 hge) (hp q (by simp))
      · exact hq r hr

theorem freeNumber_some {pans : List Pan} {n : Nat} (h : freeNumber pans = some n) :
    (1 ≤ n ∧ n ≤ 6) ∧ ∀ q ∈ pans, q.number ≠ n := by
  have hmem := List.mem_of_find?_eq_some h
  have hfree := List.find?_some h
  refine ⟨by simp at hmem; omega, ?_⟩
  simpa [findPan] using hfree

/-- R40: a candidate whose coils belong to no pan opens a record whose own they become. -/
theorem TableOwned.claim {own : Nat → Option Nat} {s : State} (h : TableOwned own s) {coils : List Nat}
    (hs : FootprintSound coils) (hfree : ∀ c ∈ coils, own c = none) :
    ∃ n, TableOwned (fun c => if c ∈ coils then some n else own c) (s.claim coils) := by
  have hout : ∀ (n : Nat) (p : Pan), p ∈ s.pans → ∀ c ∈ p.footprint,
      (if c ∈ coils then some n else own c) = some p.number := fun n p hp c hc => by
    have hown := h.owned p hp c hc
    rw [if_neg fun hm => by simp [hfree c hm] at hown, hown]
  unfold State.claim
  split
  · exact ⟨0, h.ascending, h.numbers, h.pans, hout 0, h.demand, h.recalls⟩
  · rename_i n hn
    obtain ⟨hrange, hnew⟩ := freeNumber_some hn
    have hperm := insertPan_perm (s.newPan n coils) s.pans
    have hnums := hperm.map (fun p => p.number)
    refine ⟨n, List.pairwise_map.2 (insertPan_ascending (List.pairwise_map.1 h.ascending) hnew), fun m hm => ?_,
      fun p hp => ?_, fun p hp => ?_, ?_, h.recalls⟩
    · rcases List.mem_cons.1 (hnums.mem_iff.1 hm) with rfl | hm
      · exact hrange
      · exact h.numbers m hm
    · rcases List.mem_cons.1 (hperm.mem_iff.1 hp) with rfl | hp
      · exact panSound_iff.2 ⟨hs, gensSound_nil⟩
      · exact h.pans p hp
    · rcases List.mem_cons.1 (hperm.mem_iff.1 hp) with rfl | hp
      · exact fun c hc => if_pos hc
      · exact hout n p hp
    · exact ((List.perm_append_singleton n _).trans (h.demand.cons n)).trans hnums.symm

theorem TableOwned.claims {comps : List (List Nat)} (hs : ∀ f ∈ comps, FootprintSound f)
    (hd : comps.Pairwise (fun f g => ∀ c ∈ f, c ∉ g)) {own : Nat → Option Nat} {s : State} (h : TableOwned own s)
    (hfree : ∀ f ∈ comps, ∀ c ∈ f, own c = none) : TableSound (comps.foldl State.claim s) := by
  induction comps generalizing own s with
  | nil => exact h.sound
  | cons f rest ih =>
    obtain ⟨hf, hrest⟩ := List.pairwise_cons.1 hd
    obtain ⟨n, hc⟩ := h.claim (hs f (by simp)) (hfree f (by simp))
    refine ih (fun g hg => hs g (by simp [hg])) hrest hc fun g hg c hcg => ?_
    rw [if_neg fun hcf => hf g hg c hcf hcg]
    exact hfree g (by simp [hg]) c hcg

/-! ### The components of a pass (R36, R40) -/

theorem matchedComponents_sound (s : State) {f : List Nat} (hf : f ∈ s.matchedComponents) : FootprintSound f := by
  obtain ⟨hne, hasc, hlink⟩ := (matchedComponents_spec s).1 f hf
  exact ⟨hne, hasc, fun c hc => (Linked.covered ((hlink c hc c).1 hc)).1⟩

/-- R36: two components have no coil in common. -/
theorem matchedComponents_disjoint (s : State) : s.matchedComponents.Pairwise (fun f g => ∀ c ∈ f, c ∉ g) := by
  obtain ⟨hspec, -, hasc⟩ := matchedComponents_spec s
  refine hasc.imp_of_mem fun {f g} hf hg ⟨low, hlow, hless⟩ c hcf hcg => ?_
  have hlg : low ∈ g := by
    have hcl : Linked s c low := ((hspec f hf).2.2 c hcf low).1 hlow
    exact ((hspec g hg).2.2 c hcg low).2 hcl
  exact absurd (hless low hlg) (Nat.lt_irrefl low)

/-- R38, R40: a coil of a component that overlaps no pan is no pan's through the pass. -/
theorem passOwner_unclaimed {pans : List Pan} {comps : List (List Nat)}
    (hd : comps.Pairwise (fun f g => ∀ c ∈ f, c ∉ g)) {f : List Nat} (hf : f ∈ comps)
    (hover : overlapped pans f = []) {c : Nat} (hc : c ∈ f) (hc48 : c < 48) :
    passOwner pans (attribution pans comps) c = none := by
  have hnone : pans.find? (fun p => p.footprint.contains c) = none := by
    refine List.find?_eq_none.2 fun p hp hcp => ?_
    have hmem : p ∈ overlapped pans f := List.mem_filter.2 ⟨hp, List.any_eq_true.2 ⟨c, hc, hcp⟩⟩
    simp [hover] at hmem
  have hattr : ((attribution pans comps)[c]?).getD none = none := by
    have hfind : comps.find? (fun comp => comp.contains c) = some f := find?_of_disjoint id hd hf hc
    rw [attribution_getElem? pans comps hc48, hfind, Option.bind_some]
    simp only [attributedIn, hnone, hover]; rfl
  rw [passOwner, hattr, ownerOf, hnone]; rfl

/-! ### The pass as a whole (R35) -/

section
variable (s : State)

/-- The pan each coil is attributed to at a pass. -/
def State.passAttribution : List (Option Nat) := attribution s.pans s.matchedComponents

/-- R42, R50: the pans that a pass confirms. -/
def State.newlyPlaced : List Nat :=
  (s.pans.filter (fun p => p.state = .forming && !(newFootprint s.passAttribution p.number).isEmpty)).map
    (fun p => p.number)

/-- R40: the components of a pass that overlap no pan. -/
def State.candidates : List (List Nat) := s.matchedComponents.filter (fun comp => (overlapped s.pans comp).isEmpty)

theorem State.trackingPass_eq :
    s.trackingPass =
      (s.candidates.foldl State.claim (s.newlyPlaced.foldl State.recallCheck
        (s.pans.foldl (State.passPan s.passAttribution) s))).rewriteCoilPans.judgeAutoOff := rfl

variable {s}

/-- R35: the tracking pass keeps the table sound. -/
theorem State.trackingPass_sound (h : TableSound s) : TableSound s.trackingPass := by
  obtain ⟨-, -, hpan, hdis, -, -⟩ := id h
  have hown : ∀ p ∈ s.pans, ∀ c ∈ p.footprint, passOwner s.pans s.passAttribution c = some p.number :=
    fun p hp c hc => passOwner_of_mem hdis _ hp hc ((panSound_iff.1 (hpan p hp)).1.2.2 c hc)
  have hstart : TableOwned (passOwner s.pans s.passAttribution) s := { TableSound.owned h with owned := hown }
  have hpass := (hstart.passPans fun p hp => ⟨hpan p hp, hown p hp⟩).recallChecks s.newlyPlaced
  have hclaims := hpass.claims (comps := s.candidates)
    (fun f hf => matchedComponents_sound s (List.mem_filter.1 hf).1) ((matchedComponents_disjoint s).filter _)
    (fun f hf c hc => by
      obtain ⟨hf, hover⟩ := List.mem_filter.1 hf
      exact passOwner_unclaimed (matchedComponents_disjoint s) hf (by simpa using hover) hc
        ((matchedComponents_sound s hf).2.2 c hc))
  rw [State.trackingPass_eq]
  refine TableKept.sound ⟨?_, .inl (by simp), by simp⟩ hclaims
  simpa using fun p _ => PlaceKept.refl p

end

/-! ### Outside ACTIVE (R49, R50, R53, R72) -/

theorem Resting.withPans {s t : State} (h : Resting s) (hp : ∀ p ∈ t.pans, PanOff p)
    (hr : t.recalls = s.recalls := by simp) (hl : LevelsOff t.levels) (hm : t.ctl = s.ctl := by simp) : Resting t :=
  ⟨⟨hp, hr ▸ h.recalls, hl⟩, hm ▸ h.mode⟩

theorem Resting.modPan {s : State} (h : Resting s) (n : Nat) {f : Pan → Pan} (hf : ∀ p, PanOff p → PanOff (f p)) :
    Resting (s.modPan n f) := by
  refine h.withPans (fun q hq => ?_) (hl := h.levels)
  obtain ⟨p, hp, rfl⟩ := List.mem_map.1 hq
  split
  · exact hf p (h.pans p hp)
  · exact h.pans p hp

theorem Resting.removePan {s : State} (h : Resting s) (n : Nat) : Resting (s.removePan n) :=
  h.withPans (fun p hp => h.pans p (List.mem_filter.1 hp).1) (hl := h.levels)

/-- R49: outside ACTIVE a lifted pan leaves no recall entry. -/
theorem Resting.liftPan {s : State} (h : Resting s) (p : Pan) : Resting (s.liftPan p) := by
  have hu : s.liftPan p = (s.removePan p.number).capture .panLifted := by simp [State.liftPan, h.mode]
  rw [hu]
  exact (h.removePan p.number).withPans (h.removePan p.number).pans (hl := (h.removePan p.number).levels)

theorem Resting.notFound {s : State} (h : Resting s) (p : Pan) : Resting (s.notFound p) := by
  unfold State.notFound
  split
  · exact h.removePan _
  · exact h.liftPan p
  all_goals
    split
    · exact h.liftPan p
    · exact h.modPan _ fun q hq => ⟨hq.1, by simp, hq.2.2⟩

/-- R41 to R43: a pan at level 0 does not heat once found. -/
theorem State.foundPan_off (s : State) (footprint : List Nat) {p : Pan} (hp : PanOff p) :
    PanOff (s.foundPan footprint p).1 := by
  obtain ⟨hl, hs, hb⟩ := hp
  have hstate : foundState p ≠ .heating := by
    unfold foundState
    split <;> simp_all
  unfold State.foundPan
  dsimp only
  (repeat' split) <;> exact ⟨hl, hstate, hb⟩

theorem Resting.passPan {s : State} (h : Resting s) (attr : List (Option Nat)) {p : Pan} (hp : PanOff p) :
    Resting (s.passPan attr p) := by
  unfold State.passPan
  dsimp only
  split
  · exact h.notFound p
  · have hm := h.modPan p.number (f := fun _ => (s.foundPan (newFootprint attr p.number) p).1)
      fun _ _ => s.foundPan_off _ hp
    exact hm.withPans (by simpa using hm.pans) (hl := by simpa using hm.levels)

theorem Resting.passPans {s : State} (h : Resting s) (attr : List (Option Nat)) {l : List Pan}
    (hl : ∀ p ∈ l, PanOff p) : Resting (l.foldl (State.passPan attr) s) := by
  induction l generalizing s with
  | nil => exact h
  | cons p rest ih => exact ih (h.passPan attr (hl p (by simp))) fun q hq => hl q (by simp [hq])

/-- R50: outside ACTIVE no pan is recalled. -/
theorem Resting.recallChecks {s : State} (h : Resting s) (l : List Nat) : l.foldl State.recallCheck s = s := by
  induction l with
  | nil => rfl
  | cons n rest ih =>
    have hn : s.recallCheck n = s := by
      unfold State.recallCheck
      split
      · rfl
      · simp [h.mode]
    rw [List.foldl_cons, hn, ih]

theorem Resting.claim {s : State} (h : Resting s) (coils : List Nat) : Resting (s.claim coils) := by
  unfold State.claim
  split
  · exact h
  · refine h.withPans (fun p hp => ?_) (hl := h.levels)
    rcases List.mem_cons.1 ((insertPan_perm _ _).mem_iff.1 hp) with rfl | hp
    · exact ⟨rfl, by simp [State.newPan], rfl⟩
    · exact h.pans p hp

theorem Resting.claims {s : State} (h : Resting s) (l : List (List Nat)) : Resting (l.foldl State.claim s) := by
  induction l generalizing s with
  | nil => exact h
  | cons f rest ih => exact ih (h.claim f)

/-- R72: outside ACTIVE the auto-off timer is stopped. -/
theorem Resting.judgeAutoOff {s : State} (h : Resting s) : Resting s.judgeAutoOff := by
  obtain ⟨hpause, htimer, hpermit, -⟩ := h.levels
  refine h.withPans (by simpa using h.pans) (hl := ?_)
  rw [State.judgeAutoOff_eq]
  exact ⟨hpause, htimer, hpermit, by simp [autoOffWith, h.mode]⟩

theorem Resting.trackingPass {s : State} (h : Resting s) : Resting s.trackingPass := by
  have hpass := h.passPans s.passAttribution h.pans
  have hclaims := hpass.claims s.candidates
  rw [State.trackingPass_eq, hpass.recallChecks]
  exact (hclaims.withPans (by simpa using hclaims.pans) (hl := by simpa using hclaims.levels)).judgeAutoOff

/-- R27, R35, R77, R83: what a tracking point keeps. -/
theorem State.trackingPoint_keeps (s : State) : Keeps s s.trackingPoint := by
  have hpass : Keeps s.takeUpExclusions s.takeUpExclusions.trackingPass :=
    ⟨State.trackingPass_sound, Resting.trackingPass, fun ⟨hm, hv, ht, hr⟩ =>
      ⟨by simpa using hm, by simpa using hv, by simpa using ht, by simpa using hr⟩⟩
  have hexcl : Aside s s.takeUpExclusions := .of_eq
  exact (hexcl.keeps.trans hpass).trans (State.routeTracking_aside _).keeps

end Sys2Proof.Machine
end

section
/-! PROOFS. The leaving of ACTIVE (R143): what it leaves behind, what stands before it within the step, and what stands
after it. -/

namespace Sys2Proof.Machine

open Sys2Proof.Safety

/-! ### What stands around a leaving -/

/-- A board's record, as far as the enable line and its settling go. -/
structure LineKept (r r' : BoardRec) : Prop where
  line : r'.line = r.line
  lineDown : r'.lineDown = r.lineDown
  settled : r'.settled = r.settled
  stuck : r'.stuck = r.stuck
  freeFaults : r'.freeFaults = r.freeFaults

theorem LineKept.refl (r : BoardRec) : LineKept r r := ⟨rfl, rfl, rfl, rfl, rfl⟩

theorem LineKept.trans {r r' r'' : BoardRec} (h : LineKept r r') (h' : LineKept r' r'') : LineKept r r'' :=
  ⟨h'.line.trans h.line, h'.lineDown.trans h.lineDown, h'.settled.trans h.settled, h'.stuck.trans h.stuck,
    h'.freeFaults.trans h.freeFaults⟩

/-- R166: events may be entered into the captured sets, and nothing taken out of them. -/
structure SetsKept (s t : State) : Prop where
  enabled : ∀ p, (t.partner p).enabled = (s.partner p).enabled
  captured : ∀ p e, holds (s.partner p).captured e = true → holds (t.partner p).captured e = true

theorem SetsKept.trans {s t u : State} (h : SetsKept s t) (h' : SetsKept t u) : SetsKept s u :=
  ⟨fun p => (h'.enabled p).trans (h.enabled p), fun p e he => h'.captured p e (h.captured p e he)⟩

theorem SetsKept.of_partner {s t : State}
    (h : ∀ p, (t.partner p).enabled = (s.partner p).enabled ∧ (t.partner p).captured = (s.partner p).captured) :
    SetsKept s t := ⟨fun p => (h p).1, fun p _ he => (h p).2 ▸ he⟩

theorem SetsKept.of_links {s t : State} (h : t.links = s.links) : SetsKept s t :=
  .of_partner fun p => by rw [State.partner_congr h]; exact ⟨rfl, rfl⟩

/-- R166: what captures keep of the sets. -/
theorem SetsKept.of_entered {s t : State} (es : List Event) (h : ∀ p, t.partner p = enterAll es (s.partner p)) :
    SetsKept s t :=
  ⟨fun p => by rw [h, enterAll_enabled], fun p e he => by rw [h, holds_enterAll, he, Bool.true_or]⟩

theorem SetsKept.of_surface {s t : State} (h : SurfaceStands s t) : SetsKept s t := ⟨h.enabled, h.captured⟩

/-- A generator keeps its pan, its retries and its fault, and its state but for running and standing armed. -/
structure GenStands (x y : Gen) : Prop where
  pan : y.pan = x.pan
  retries : y.retries = x.retries
  retryTimer : y.retryTimer = x.retryTimer
  fault : y.fault = x.fault
  unconfirmed : y.unconfirmed = x.unconfirmed
  state : y.state = x.state ∨ (x.state.ready = true ∧ y.state.ready = true)

theorem GenStands.refl (x : Gen) : GenStands x x := ⟨rfl, rfl, rfl, rfl, rfl, .inl rfl⟩

theorem GenStands.trans {x y z : Gen} (h : GenStands x y) (h' : GenStands y z) : GenStands x z := by
  refine ⟨h'.pan.trans h.pan, h'.retries.trans h.retries, h'.retryTimer.trans h.retryTimer, h'.fault.trans h.fault,
    h'.unconfirmed.trans h.unconfirmed, ?_⟩
  rcases h.state with hs | ⟨hx, hy⟩ <;> rcases h'.state with hs' | ⟨hy', hz⟩
  · exact .inl (hs'.trans hs)
  · exact .inr ⟨hs ▸ hy', hz⟩
  · exact .inr ⟨hx, hs' ▸ hy⟩
  · exact .inr ⟨hx, hz⟩

/-- A coil keeps its place in both route images. -/
structure ImageKept (k k' : Coil) : Prop where
  desired : k'.desired = k.desired
  latched : k'.latched = k.latched

theorem ImageKept.refl (k : Coil) : ImageKept k k := ⟨rfl, rfl⟩

/-- A pan keeps its generators and its starved mark. -/
structure ServedKept (p q : Pan) : Prop where
  gens : q.gens = p.gens
  starved : q.starved = p.starved

theorem ServedKept.refl (p : Pan) : ServedKept p p := ⟨rfl, rfl⟩

/-- From `s` to `t` nothing changes of what a leaving of ACTIVE reads or writes, but that events may be captured. -/
structure Stands (s t : State) : Prop extends Aside s t where
  served : List.Forall₂ ServedKept s.pans t.pans
  coils : List.Forall₂ ImageKept s.coils t.coils
  gens : List.Forall₂ GenStands s.gens t.gens
  lines : ∀ bd, LineKept (s.board bd) (t.board bd)
  route : t.route = s.route
  sets : SetsKept s t

theorem Stands.trans {s t u : State} (h : Stands s t) (h' : Stands t u) : Stands s u where
  toAside := h.toAside.trans h'.toAside
  served := forall₂_trans (R := ServedKept) (S := ServedKept)
    (fun _ _ _ h h' => ⟨h'.gens.trans h.gens, h'.starved.trans h.starved⟩) h.served h'.served
  coils := forall₂_trans (R := ImageKept) (S := ImageKept)
    (fun _ _ _ h h' => ⟨h'.desired.trans h.desired, h'.latched.trans h.latched⟩) h.coils h'.coils
  gens := forall₂_trans (R := GenStands) (S := GenStands) (fun _ _ _ => GenStands.trans) h.gens h'.gens
  lines bd := (h.lines bd).trans (h'.lines bd)
  route := h'.route.trans h.route
  sets := h.sets.trans h'.sets

theorem Stands.after {s t u : State} (h' : Stands t u) (h : Stands s t) : Stands s u := h.trans h'

theorem LineKept.of_eq {s t : State} (ha : t.boardA = s.boardA) (hb : t.boardB = s.boardB) (bd : Board) :
    LineKept (s.board bd) (t.board bd) := by rw [State.board_congr ha hb]; exact .refl _

/-- Coil by coil rewritten, the images standing. -/
theorem State.mapCoils_images (s : State) {f : Nat → Coil → Coil} (hf : ∀ c k, ImageKept k (f c k)) :
    List.Forall₂ ImageKept s.coils (s.mapCoils f).coils := by
  refine List.forall₂_iff_get.2 ⟨by simp, fun i hi hj => ?_⟩
  have hget := s.mapCoils_getElem? f i
  rw [List.getElem?_eq_getElem hi, List.getElem?_eq_getElem hj] at hget
  simpa [Option.some.inj hget] using hf i s.coils[i]

/-- Generator by generator rewritten. -/
theorem State.mapGens_forall₂ {R : Gen → Gen → Prop} (s : State) {f : Nat → Gen → Gen}
    (hf : ∀ g, ∀ x ∈ s.gens, R x (f g x)) : List.Forall₂ R s.gens (s.mapGens f).gens := by
  refine List.forall₂_iff_get.2 ⟨by simp, fun i hi hj => ?_⟩
  have hget := s.mapGens_getElem? f i
  rw [List.getElem?_eq_getElem hi, List.getElem?_eq_getElem hj] at hget
  simpa [Option.some.inj hget] using hf i s.gens[i] (List.getElem_mem hi)

/-- Where everything but the links, the phases and the survey stands. -/
theorem Stands.of_eq {s t : State} (hsets : SetsKept s t) (hp : t.pans = s.pans := by simp)
    (hr : t.recalls = s.recalls := by simp) (hl : t.levels = s.levels := by simp) (hc : t.ctl = s.ctl := by simp)
    (hv : s.survey.state = .idle → t.survey.state = .idle := by simp) (hx : t.resetting = s.resetting := by simp)
    (hk : t.coils = s.coils := by simp) (hg : t.gens = s.gens := by simp) (ha : t.boardA = s.boardA := by simp)
    (hb : t.boardB = s.boardB := by simp) (hroute : t.route = s.route := by simp) : Stands s t where
  toAside := .of_eq hp hr hl hc hv hx
  served := forall₂_of_eq .refl hp
  coils := forall₂_of_eq .refl hk
  gens := forall₂_of_eq .refl hg
  lines := .of_eq ha hb
  route := hroute
  sets := hsets

section
variable (s : State)

theorem State.elapse_stands (dt : Nat) : Stands s (s.elapse dt) where
  toAside := s.elapse_aside dt
  served := by
    obtain ⟨f, hf, hk⟩ := s.elapse_pans dt
    rw [hf]
    refine forall₂_map_self fun p _ => ?_
    obtain ⟨b, n, hp, -⟩ := hk p
    rw [hp]; exact ⟨rfl, rfl⟩
  coils := forall₂_of_eq .refl rfl
  gens := forall₂_of_eq .refl rfl
  lines := .of_eq rfl rfl
  route := rfl
  sets := .of_links rfl

theorem State.elapseTo_stands (t : Nat) : Stands s (s.elapseTo t) := s.elapse_stands _

theorem State.modPhase_leaves (ph : Phase) (f : PhaseRec → PhaseRec) : Stands s (s.modPhase ph f) :=
  .of_eq (.of_links (by simp))

theorem State.capture_leaves (e : Event) : Stands s (s.capture e) := .of_eq (.of_surface (s.captureAll_stands [e]))

theorem State.modPartner_leaves (p : Partner) {f : PartnerRec → PartnerRec}
    (hf : ∀ r, (f r).enabled = r.enabled ∧ (f r).captured = r.captured) : Stands s (s.modPartner p f) := by
  refine .of_eq (.of_partner fun q => ?_)
  by_cases h : q = p
  · subst h; simpa using hf (s.partner q)
  · rw [State.partner_modPartner_ne _ _ h]; exact ⟨rfl, rfl⟩

theorem State.dequeue_leaves (p : Partner) (rest : List Frame) : Stands s (s.dequeue p rest) :=
  .of_eq (.of_partner fun q => by cases p <;> cases q <;> exact ⟨rfl, rfl⟩)

theorem produceAt_sets (place : Nat) (f : OutFrame) (r : PartnerRec) :
    (produceAt place f r).enabled = r.enabled ∧ (produceAt place f r).captured = r.captured := by
  unfold produceAt; split <;> exact ⟨rfl, rfl⟩

theorem State.respond_leaves (p : Partner) (place : Nat) (tag : Byte) (payload : List Byte) :
    Stands s (s.respond p place tag payload) := s.modPartner_leaves p (produceAt_sets place _)

theorem State.modBoardLink_leaves (bd : Board) (f : LinkRec → LinkRec) : Stands s (s.modLink (boardLinkId bd) f) :=
  .of_eq (.of_surface (s.modBoardLink_stands bd f))

theorem State.modBoard_leaves (bd : Board) {f : BoardRec → BoardRec} (hf : ∀ r, LineKept r (f r)) :
    Stands s (s.modBoard bd f) where
  toAside := .of_eq
  served := forall₂_of_eq .refl (by simp)
  coils := forall₂_of_eq .refl (by simp)
  gens := forall₂_of_eq .refl (by simp)
  lines q := by
    by_cases h : q = bd
    · subst h; rw [State.board_modBoard]; exact hf _
    · rw [State.board_modBoard_ne _ _ h]; exact .refl _
  route := by simp
  sets := .of_links (by simp)

/-! ### The frame start stands aside from a leaving (R12, R116) -/

theorem takeReading_image (st : Settings) (r : Reading) (k : Coil) : ImageKept k (takeReading st r k) := by
  unfold takeReading; split <;> exact ⟨rfl, rfl⟩

theorem State.captureAll_sets (es : List Event) : SetsKept s (s.captureAll es) := .of_surface (s.captureAll_stands es)

theorem State.intake_leaves (reading : Nat → Option Reading) : Stands s (s.intake reading) where
  toAside := s.intake_aside reading
  served := forall₂_of_eq .refl (by simp)
  coils := by
    rw [State.intake_coils]
    refine s.mapCoils_images fun c k => ?_
    unfold intakeCoil
    split <;> [exact .refl k; exact takeReading_image _ _ k]
  gens := forall₂_of_eq .refl (by simp)
  lines := .of_eq (by simp) (by simp)
  route := by simp
  sets := by
    unfold State.intake
    dsimp only
    refine SetsKept.trans ?_ (State.captureAll_sets _ _)
    exact .of_links rfl

theorem State.completeSurvey_images : List.Forall₂ ImageKept s.coils s.completeSurvey.coils := by
  show List.Forall₂ ImageKept s.coils (s.takeBaselines fun c => (s.survey.sums[c]?).getD 0 / s.survey.length).coils
  exact s.mapCoils_images fun _ k => by unfold emptyWindow; split <;> exact ⟨rfl, rfl⟩

theorem State.completeSurvey_sets : SetsKept s s.completeSurvey :=
  .of_entered [.survey, .modeChanged] fun p => by cases p <;> rfl

theorem State.countFrame_links : s.countFrame.links = s.links := by simp

theorem State.surveyClose_leaves : Stands s s.surveyClose where
  toAside := s.surveyClose_aside
  served := forall₂_of_eq .refl (by simp)
  coils := by
    unfold State.surveyClose State.closeRunning
    dsimp only
    split
    · exact forall₂_of_eq .refl rfl
    · split
      · have h := s.countFrame.completeSurvey_images
        rwa [show s.countFrame.coils = s.coils by simp] at h
      · exact forall₂_of_eq .refl (by simp)
    · exact forall₂_of_eq .refl (by simp)
  gens := forall₂_of_eq .refl (by simp)
  lines := .of_eq (by simp) (by simp)
  route := by simp
  sets := by
    unfold State.surveyClose State.closeRunning
    dsimp only
    split
    · exact .of_links rfl
    · split
      · exact (SetsKept.of_links s.countFrame_links).trans s.countFrame.completeSurvey_sets
      · exact .of_links s.countFrame_links
    · exact .of_links (by simp)

theorem GenPlan.write_stands (g : Nat) (x : Gen) (r : GenPlan) : GenStands x (r.write g x) := by
  refine ⟨rfl, rfl, rfl, rfl, rfl, ?_⟩
  cases h : x.state.ready with
  | false => exact .inl (by simp [GenPlan.write, h])
  | true => exact .inr ⟨rfl, by simp only [GenPlan.write, h, if_true]; split <;> rfl⟩

theorem State.shareComputation_leaves : Stands s s.shareComputation where
  toAside := s.shareComputation_aside
  served := by
    obtain ⟨grants, plans, hp⟩ := s.shareComputation_pans
    rw [hp]; exact forall₂_map_self fun _ _ => ⟨rfl, rfl⟩
  coils := forall₂_of_eq .refl (by simp)
  gens := by
    have hg : s.shareComputation.gens = (s.mapGens (fun g x =>
        (planOf (s.phaseCheck .b (s.phaseCheck .a (s.firstPlans s.grants)).1).1 g).write g x)).gens := by
      unfold State.shareComputation; simp
    rw [hg]; exact s.mapGens_forall₂ fun g x _ => GenPlan.write_stands g x _
  lines := .of_eq (by simp) (by simp)
  route := by simp
  sets := .of_surface s.shareComputation_stands

theorem State.intakeAndClose_leaves : Stands s s.intakeAndClose := by
  unfold State.intakeAndClose State.showroomIntake
  (repeat' split)
  · exact s.intake_leaves _
  · exact s.surveyClose_leaves.trans (State.intake_leaves _ _)
  · exact (s.intake_leaves _).trans (State.surveyClose_leaves _)
  · exact s.surveyClose_leaves

theorem State.startPhases_leaves : Stands s s.startPhases := .of_eq (.of_surface s.startPhases_stands)

theorem State.frameStart_leaves : Stands s s.frameStart :=
  (s.startPhases_leaves.trans (State.intakeAndClose_leaves _)).trans (State.shareComputation_leaves _)

theorem State.freeFrame_leaves : Stands s s.freeFrame :=
  (State.frameStart_leaves _).after (.of_eq (.of_links (by simp)))

/-- R152: a frame start does not leave STANDBY. -/
theorem State.freeFrame_standby (h : s.ctl.mode = .standby) : s.freeFrame.ctl.mode = .standby := by
  have hclose : ∀ u : State, u.ctl.mode = .standby → u.surveyClose.ctl.mode = .standby := fun u hu => by
    unfold State.surveyClose
    split
    · exact hu
    · rcases u.closeRunning_mode with hm | hm <;> rw [hm]; exact hu
    · simpa using hu
  have hintake : ∀ u : State, u.ctl.mode = .standby → u.intakeAndClose.ctl.mode = .standby := fun u hu => by
    unfold State.intakeAndClose
    (repeat' split)
    · simpa using hu
    · simpa using hclose u hu
    · exact hclose _ (by simpa using hu)
    · exact hclose u hu
  unfold State.freeFrame State.frameStart
  rw [show ∀ u : State, u.shareComputation.ctl = u.ctl by simp]
  exact hintake _ (by simpa using h)

end

end Sys2Proof.Machine
end

section
/-! PROOFS. The leaving of ACTIVE itself (R73, R83, R105, R111, R143), field by field, and every effect of it that the
next state shows. -/

namespace Sys2Proof.Machine

open Sys2Proof.Safety

/-! ### Generators by their index -/

/-- A generator record after all have been rewritten by what leaves the reset record alone. -/
theorem State.gen_mapGens_fixed (s : State) {f : Nat → Gen → Gen} {g : Nat} (hf : f g Gen.initial = Gen.initial) :
    (s.mapGens f).gen g = f g (s.gen g) := by
  simp only [State.gen, State.mapGens_getElem?]
  cases s.gens[g]? <;> simp [hf]

theorem getD_of_forall₂ {α : Type} {R : α → α → Prop} {l l' : List α} (h : List.Forall₂ R l l') {d : α} (hd : R d d)
    (i : Nat) : R ((l[i]?).getD d) ((l'[i]?).getD d) := by
  by_cases hi : i < l.length
  · have hi' : i < l'.length := h.length_eq ▸ hi
    simpa [hi, hi'] using h.get hi hi'
  · have hi' : ¬i < l'.length := h.length_eq ▸ hi
    simpa [hi, hi'] using hd

theorem gen_of_forall₂ {R : Gen → Gen → Prop} {s t : State} (h : List.Forall₂ R s.gens t.gens)
    (hi : R Gen.initial Gen.initial) (g : Nat) : R (s.gen g) (t.gen g) := getD_of_forall₂ h hi g

theorem State.exists_gen {s : State} {x : Gen} (h : x ∈ s.gens) : ∃ g, s.gen g = x := by
  obtain ⟨g, hg, hx⟩ := List.getElem_of_mem h
  exact ⟨g, by simp [State.gen, hg, hx]⟩

/-! ### The lines and the generators in a leaving (R105, R111) -/

section
variable {s : State}

theorem State.judgeLine_unwanted {bd : Board} (hw : s.lineWanted bd = false) :
    (s.judgeLine bd).board bd = lineDropped s.now (s.board bd) := by
  rw [State.judgeLine_board, hw, lineDropped]
  cases (s.board bd).line <;> rfl

theorem State.leaveBoard_board (bd q : Board) :
    (s.leaveBoard bd).board q =
      if q = bd then { s.board q with freeFaults := (s.board q).freeFaults || !(s.board q).settled } else s.board q := by
  unfold State.leaveBoard
  cases hs : (s.board bd).settled with
  | false =>
    by_cases hq : q = bd
    · subst hq; simp [hs]
    · simp [hq, State.board_modBoard_ne]
  | true =>
    have hmap : ∀ f, (s.mapGens f).board q = s.board q := fun f => State.board_congr rfl rfl q
    by_cases hq : q = bd
    · subst hq; simp only [hs, if_true, hmap, Bool.not_true, Bool.or_false]; rw [← hs]
    · simp only [if_true, hmap, hq, if_false]

theorem State.leaveBoard_gen (bd : Board) (g : Nat) :
    (s.leaveBoard bd).gen g =
      if boardOf g = bd ∧ (s.board bd).settled = true then (s.gen g).freeFault else s.gen g := by
  unfold State.leaveBoard
  cases hs : (s.board bd).settled with
  | false => simpa using State.gen_congr (s := s) (by simp) g
  | true =>
    simp only [if_true, and_true]
    exact s.gen_mapGens_fixed (by split <;> rfl)

/-- The lines of the boards once a leaving has judged them. -/
theorem State.leave_judged (hw : ∀ bd, s.lineWanted bd = false) (bd : Board) :
    (s.mapGens (fun _ x => x.leave)).judgeLines.board bd = lineDropped s.now (s.board bd) := by
  rw [State.judgeLines_board]
  exact State.judgeLine_unwanted (hw bd)

theorem lineDropped_keeps (now : Nat) (r : BoardRec) :
    (lineDropped now r).freeFaults = r.freeFaults ∧ (lineDropped now r).settled = r.settled := by
  unfold lineDropped; split <;> exact ⟨rfl, rfl⟩

theorem State.leaveBoards_board (hw : ∀ bd, s.lineWanted bd = false) (bd : Board) :
    s.leaveBoards.board bd = { lineDropped s.now (s.board bd) with
      freeFaults := (s.board bd).freeFaults || !(s.board bd).settled } := by
  unfold State.leaveBoards
  cases bd <;> simp [State.leaveBoard_board, State.leave_judged hw, lineDropped_keeps]

theorem State.leaveBoards_gen (hw : ∀ bd, s.lineWanted bd = false) (g : Nat) :
    s.leaveBoards.gen g =
      if (s.board (boardOf g)).settled = true then (s.gen g).leave.freeFault else (s.gen g).leave := by
  have hgen : (s.mapGens (fun _ x => x.leave)).judgeLines.gen g = (s.gen g).leave :=
    (State.gen_congr (s := s.mapGens fun _ x => x.leave) (by simp) g).trans (s.gen_mapGens_fixed rfl)
  unfold State.leaveBoards
  dsimp only
  rw [State.leaveBoard_gen, State.leaveBoard_gen, State.leaveBoard_board,
    if_neg (show ¬Board.b = Board.a by decide), hgen,
    State.leave_judged hw, State.leave_judged hw, (lineDropped_keeps _ _).2, (lineDropped_keeps _ _).2]
  cases boardOf g <;> simp

end

/-! ### The leaving before any routing operation (R143) -/

/-- The leaving of ACTIVE but for the test of R84, which follows it on the way to STANDBY. -/
def State.left (m : Mode) (s : State) : State := (s.setMode m).leaveLevels.openImage.leaveBoards

section
variable (s : State) (m : Mode)

theorem State.leaveActive_standby : s.leaveActive .standby = (s.left .standby).tryOperation := by
  unfold State.leaveActive; exact if_pos rfl

theorem State.leaveActive_halt : s.leaveActive .halt = s.left .halt := by
  unfold State.leaveActive; exact if_neg (by decide)

@[simp] theorem State.left_now : (s.left m).now = s.now := by simp [State.left]
@[simp] theorem State.left_mode : (s.left m).ctl.mode = m := by simp [State.left]
@[simp] theorem State.left_route : (s.left m).route = s.route := by simp [State.left]
@[simp] theorem State.left_recalls : (s.left m).recalls = [] := by simp [State.left, State.leaveLevels]
@[simp] theorem State.left_levels :
    (s.left m).levels = { s.levels with pause := false, pauseTimer := none, permit := .off, autoOff := none } := by
  simp [State.left, State.leaveLevels]

theorem State.left_pans :
    (s.left m).pans = s.pans.map (fun p => { p.switchOff with gens := [], starved := false }) := by
  simp [State.left, State.openImage, State.leaveLevels]

theorem State.left_coils : (s.left m).coils = s.coils.map (fun k => { k with desired := none }) := by
  simp [State.left, State.openImage]

theorem State.left_partner (p : Partner) : (s.left m).partner p = enterAll [.modeChanged] (s.partner p) := by
  have hl : (s.left m).links = (s.setMode m).links := by simp [State.left]
  rw [State.partner_congr hl]; cases p <;> rfl

variable {m}

theorem State.left_unwanted (hm : m ≠ .active) (bd : Board) :
    (s.setMode m).leaveLevels.openImage.lineWanted bd = false := by
  simp [State.lineWanted, hm]

theorem State.left_board (hm : m ≠ .active) (bd : Board) :
    (s.left m).board bd = { lineDropped s.now (s.board bd) with
      freeFaults := (s.board bd).freeFaults || !(s.board bd).settled } := by
  have hb : (s.setMode m).leaveLevels.openImage.board bd = s.board bd := State.board_congr (by simp) (by simp) bd
  rw [State.left, State.leaveBoards_board (s.left_unwanted hm), hb]; simp

/-- R111, R83: a generator in the leaving. -/
theorem State.left_gen (hm : m ≠ .active) (g : Nat) :
    (s.left m).gen g =
      if (s.board (boardOf g)).settled = true then { s.gen g with pan := none }.leave.freeFault
      else { s.gen g with pan := none }.leave := by
  have hb : (s.setMode m).leaveLevels.openImage.board (boardOf g) = s.board (boardOf g) :=
    State.board_congr (by simp) (by simp) _
  have hg : (s.setMode m).leaveLevels.openImage.gen g = { s.gen g with pan := none } := by
    have hgens : (s.setMode m).leaveLevels.openImage.gens = s.gens.map (fun x => { x with pan := none }) := by
      simp [State.openImage]
    simp only [State.gen, hgens, List.getElem?_map]
    cases s.gens[g]? <;> rfl
  rw [State.left, State.leaveBoards_gen (s.left_unwanted hm), hb, hg]

theorem Gen.freeFault_keeps (x : Gen) :
    x.freeFault.pan = x.pan ∧ x.freeFault.retries = x.retries ∧ x.freeFault.retryTimer = x.retryTimer := by
  unfold Gen.freeFault; split <;> exact ⟨rfl, rfl, rfl⟩

/-- R111, R83: every generator is left without a pan and without retries, its retry timer stopped. -/
theorem State.left_gens (hm : m ≠ .active) (g : Nat) :
    ((s.left m).gen g).pan = none ∧ ((s.left m).gen g).retries = 0 ∧ ((s.left m).gen g).retryTimer = .stopped := by
  rw [State.left_gen s hm]
  split
  · exact Gen.freeFault_keeps _
  · exact ⟨rfl, rfl, rfl⟩

/-- The pan table through a leaving. -/
theorem State.left_table : TableKept s (s.left m) where
  pans := by
    rw [State.left_pans]
    exact forall₂_map_self fun _ _ => ⟨rfl, rfl, fun _ => gensSound_nil⟩
  demand := .inl (by simp)
  recalls := by simp

end

/-! ### What the next state shows (R143) -/

/-- Every effect of a leaving of ACTIVE but those on the route record. -/
structure LeavingSeen (s t : State) (left : Nat) : Prop where
  behind : LeftBehind t
  boards : ∀ bd, BoardLeft s t left bd
  gens : ∀ g, GenLeft s t g
  pans : List.Forall₂ (fun p q => q.number = p.number ∧ q.state = if p.state = .heating then .placed else p.state)
    s.pans t.pans
  captured : ∀ p, holds (s.partner p).enabled .modeChanged = true → holds (t.partner p).captured .modeChanged = true

theorem PanOff.switchOff (p : Pan) : PanOff p.switchOff := by
  refine ⟨rfl, ?_, rfl⟩
  unfold Pan.switchOff
  split <;> simp_all

theorem State.left_seen (s : State) {m : Mode} (hm : m ≠ .active) : LeavingSeen s (s.left m) s.now where
  behind := by
    have hgens : ∀ x ∈ (s.left m).gens, x.pan = none ∧ x.retries = 0 := fun x hx => by
      obtain ⟨g, rfl⟩ := State.exists_gen hx
      obtain ⟨hpan, hretries, -⟩ := s.left_gens hm g
      exact ⟨hpan, hretries⟩
    have hline : ∀ bd, ((s.left m).board bd).line = false := fun bd => by
      rw [State.left_board s hm, lineDropped]
      cases h : (s.board bd).line <;> simp [h]
    refine ⟨fun q hq => ?_, by simp, by simp, by simp, by simp, by simp, fun k hk => ?_, hgens, hline .a, hline .b⟩
    · rw [State.left_pans] at hq
      obtain ⟨p, -, rfl⟩ := List.mem_map.1 hq
      obtain ⟨hl, hs, hb⟩ := PanOff.switchOff p
      exact ⟨hl, hs, hb, rfl, rfl⟩
    · rw [State.left_coils] at hk
      obtain ⟨k, -, rfl⟩ := List.mem_map.1 hk
      rfl
  boards bd := by
    unfold BoardLeft
    rw [State.left_board s hm, lineDropped]
    cases h : (s.board bd).line <;> simp [h, stopDelay]
  gens g := by
    obtain ⟨-, -, hretry⟩ := s.left_gens hm g
    refine ⟨fun hf hs hu => ?_, fun hf hn => ?_, fun hl => ?_, .inl hretry⟩
    · rw [State.left_gen s hm, if_pos hs]
      simp [Gen.leave, Gen.freeFault, hf, hu]
    · rw [State.left_gen s hm]
      rcases hn with hs | hu
      · simp [hs, Gen.leave, hf]
      · simp [Gen.leave, Gen.freeFault, hu, hf]
    · rw [State.left_gen s hm]
      simp [Gen.leave, Gen.freeFault, hl]
  pans := by
    rw [State.left_pans]
    exact forall₂_map_self fun _ _ => ⟨rfl, rfl⟩
  captured p hp := by
    rw [State.left_partner, holds_enterAll]; simp [hp]

end Sys2Proof.Machine
end

section
/-! PROOFS. A step that leaves ACTIVE: what comes before the leaving, what comes after it, and that neither hides an
effect of the leaving. -/

namespace Sys2Proof.Machine

open Sys2Proof.Safety

/-! ### Before the leaving -/

/-- A generator is FAULTED before the leaving exactly when it was, with its fault, and a LOST one is LOST. -/
structure FaultKept (x y : Gen) : Prop where
  faulted : y.state = .faulted ↔ x.state = .faulted
  lost : x.state = .lost → y.state = .lost
  fault : y.fault = x.fault
  unconfirmed : y.unconfirmed = x.unconfirmed

theorem GenStands.faultKept {x y : Gen} (h : GenStands x y) : FaultKept x y := by
  refine ⟨?_, ?_, h.fault, h.unconfirmed⟩ <;> rcases h.state with hs | ⟨hx, hy⟩
  · rw [hs]
  · constructor <;> intro hf <;> simp [hf, GenState.ready] at hx hy
  · rw [hs]; exact id
  · intro hl; simp [hl, GenState.ready] at hx

/-- What comes before a leaving within a step. -/
structure Before (s u : State) : Prop extends Aside s u where
  gens : ∀ g, FaultKept (s.gen g) (u.gen g)
  lines : ∀ bd, LineKept (s.board bd) (u.board bd)
  enabled : ∀ p, (u.partner p).enabled = (s.partner p).enabled

theorem Stands.before {s u : State} (h : Stands s u) : Before s u :=
  ⟨h.toAside, fun g => (gen_of_forall₂ h.gens (.refl _) g).faultKept, h.lines, h.sets.enabled⟩

theorem FaultKept.trans {x y z : Gen} (h : FaultKept x y) (h' : FaultKept y z) : FaultKept x z :=
  ⟨h'.faulted.trans h.faulted, h'.lost ∘ h.lost, h'.fault.trans h.fault, h'.unconfirmed.trans h.unconfirmed⟩

theorem Before.trans {s t u : State} (h : Before s t) (h' : Before t u) : Before s u :=
  ⟨h.toAside.trans h'.toAside, fun g => (h.gens g).trans (h'.gens g), fun bd => (h.lines bd).trans (h'.lines bd),
    fun p => (h'.enabled p).trans (h.enabled p)⟩

theorem LeavingSeen.before {s u t : State} {left : Nat} (hs : Before s u) (h : LeavingSeen u t left) :
    LeavingSeen s t left where
  behind := h.behind
  boards bd := by
    obtain ⟨hl, hst, hse, hd, hf⟩ := h.boards bd
    obtain ⟨kl, kd, kse, kst, kf⟩ := hs.lines bd
    rw [kl, kd] at hd; rw [kf, kse] at hf
    exact ⟨hl, hst.trans kst, hse.trans kse, hd, hf⟩
  gens g := by
    obtain ⟨hfree, hkeep, hlost, hretry⟩ := h.gens g
    obtain ⟨kfaulted, klost, kfault, kunc⟩ := hs.gens g
    rw [kfaulted, (hs.lines _).settled, kunc] at hfree hkeep
    rw [kfault] at hkeep
    exact ⟨hfree, hkeep, fun hl => hlost (klost hl), by simpa only [ne_eq, kfaulted] using hretry⟩
  pans := forall₂_trans (R := PanKept) (fun p q r hk ⟨hn, hst⟩ => ⟨hn.trans hk.number, by rw [hst, hk.state]⟩)
    hs.pans h.pans
  captured p hp := h.captured p (by rw [hs.enabled]; exact hp)

/-! ### After the leaving -/

/-- A generator keeps its retries, and what a fault, a loss or IDLE have left of it; its retry timer may start only with
a new fault. -/
structure GenAfter (x y : Gen) : Prop where
  pan : x.pan = none → y.pan = none
  retries : y.retries = x.retries
  rests : x.state = .idle ∨ x.state = .faulted ∨ x.state = .lost →
    y.state = x.state ∧ y.fault = x.fault ∧ y.retryTimer = x.retryTimer
  retry : y.retryTimer = x.retryTimer ∨ y.state = .faulted

theorem GenAfter.refl (x : Gen) : GenAfter x x := ⟨id, rfl, fun _ => ⟨rfl, rfl, rfl⟩, .inl rfl⟩

theorem GenAfter.trans {x y z : Gen} (h : GenAfter x y) (h' : GenAfter y z) : GenAfter x z where
  pan := h'.pan ∘ h.pan
  retries := h'.retries.trans h.retries
  rests hx := by
    obtain ⟨hs, hf, hr⟩ := h.rests hx
    obtain ⟨hs', hf', hr'⟩ := h'.rests (hs ▸ hx)
    exact ⟨hs'.trans hs, hf'.trans hf, hr'.trans hr⟩
  retry := by
    rcases h'.retry with hr' | hz
    · rcases h.retry with hr | hy
      · exact .inl (hr'.trans hr)
      · exact .inr ((h'.rests (.inr (.inl hy))).1.trans hy)
    · exact .inr hz

theorem GenStands.after {x y : Gen} (h : GenStands x y) : GenAfter x y where
  pan hx := h.pan.trans hx
  retries := h.retries
  rests hx := by
    refine ⟨?_, h.fault, h.retryTimer⟩
    rcases h.state with hs | ⟨hr, -⟩
    · exact hs
    · rcases hx with hx | hx | hx <;> simp [hx, GenState.ready] at hr
  retry := .inl h.retryTimer

/-- A pan without generators and without a starved mark stays so. -/
def StaysUnserved (p q : Pan) : Prop := (p.gens = [] → q.gens = []) ∧ (p.starved = false → q.starved = false)

/-- A coil open in the desired image stays so. -/
def StaysOpen (k k' : Coil) : Prop := k.desired = none → k'.desired = none

/-- What comes after a leaving within a step. -/
structure After (v t : State) : Prop extends Aside v t where
  served : List.Forall₂ StaysUnserved v.pans t.pans
  coils : List.Forall₂ StaysOpen v.coils t.coils
  gens : List.Forall₂ GenAfter v.gens t.gens
  lines : ∀ bd, LineKept (v.board bd) (t.board bd)
  captured : ∀ p e, holds (v.partner p).captured e = true → holds (t.partner p).captured e = true

theorem Stands.isAfter {s t : State} (h : Stands s t) : After s t where
  toAside := h.toAside
  served := h.served.imp fun _ _ hk => ⟨fun hp => hk.gens.trans hp, fun hp => hk.starved.trans hp⟩
  coils := h.coils.imp fun _ _ hk hp => hk.desired.trans hp
  gens := h.gens.imp fun _ _ => GenStands.after
  lines := h.lines
  captured := h.sets.captured

theorem After.trans {s t u : State} (h : After s t) (h' : After t u) : After s u where
  toAside := h.toAside.trans h'.toAside
  served := forall₂_trans (R := StaysUnserved) (S := StaysUnserved)
    (fun _ _ _ h h' => ⟨h'.1 ∘ h.1, h'.2 ∘ h.2⟩) h.served h'.served
  coils := forall₂_trans (R := StaysOpen) (S := StaysOpen) (fun _ _ _ h h' => h' ∘ h) h.coils h'.coils
  gens := forall₂_trans (R := GenAfter) (S := GenAfter) (fun _ _ _ => GenAfter.trans) h.gens h'.gens
  lines bd := (h.lines bd).trans (h'.lines bd)
  captured p e he := h'.captured p e (h.captured p e he)

theorem forall₂_and_of {α : Type} {R S : α → α → Prop} {l l' : List α} (h : List.Forall₂ R l l')
    (h' : List.Forall₂ S l l') : List.Forall₂ (fun x y => R x y ∧ S x y) l l' := by
  induction h with
  | nil => exact .nil
  | cons hxy _ ih => cases h' with | cons hxy' h' => exact .cons ⟨hxy, hxy'⟩ (ih h')

theorem LeftBehind.after {v t : State} (hv : LeftBehind v) (h : After v t) : LeftBehind t := by
  obtain ⟨hpans, hrec, hpause, htimer, hpermit, hoff, hcoils, hgens, ha, hb⟩ := hv
  refine ⟨fun q hq => ?_, List.sublist_nil.1 (hrec ▸ h.recalls), ?_⟩
  · obtain ⟨p, hp, hk, hserved⟩ := exists_left_of_forall₂ (forall₂_and_of h.pans h.served) hq
    obtain ⟨hl, hs, hbo, hg, hst⟩ := hpans p hp
    obtain ⟨ol, os, ob⟩ := hk.off ⟨hl, hs, hbo⟩
    exact ⟨ol, os, ob, hserved.1 hg, hserved.2 hst⟩
  rw [h.levels]
  refine ⟨hpause, htimer, hpermit, hoff, fun k' hk' => ?_, fun y hy => ?_, (h.lines .a).line.trans ha,
    (h.lines .b).line.trans hb⟩
  · obtain ⟨k, hk, hopen⟩ := exists_left_of_forall₂ h.coils hk'
    exact hopen (hcoils k hk)
  · obtain ⟨x, hx, hga⟩ := exists_left_of_forall₂ h.gens hy
    obtain ⟨hpan, hretries⟩ := hgens x hx
    exact ⟨hga.pan hpan, hga.retries.trans hretries⟩

/-- What comes after the leaving leaves its effects to be seen; a retry timer runs only in HALT. -/
theorem LeavingSeen.after {s v t : State} {left : Nat} (h : LeavingSeen s v left)
    (hstopped : ∀ g, (v.gen g).retryTimer = .stopped) (ht : After v t)
    (hend : t.ctl.mode = .halt ∨ ∀ g, (t.gen g).retryTimer = .stopped) : LeavingSeen s t left where
  behind := LeftBehind.after h.behind ht
  boards bd := by
    obtain ⟨hl, hst, hse, hd, hf⟩ := h.boards bd
    obtain ⟨kl, kd, kse, kst, kf⟩ := ht.lines bd
    exact ⟨kl.trans hl, kst.trans hst, kse.trans hse, kd.trans hd, kf.trans hf⟩
  gens g := by
    obtain ⟨hfree, hkeep, hlost, -⟩ := h.gens g
    have hga : GenAfter (v.gen g) (t.gen g) := gen_of_forall₂ ht.gens (.refl _) g
    refine ⟨fun hf hs hu => ?_, fun hf hn => ?_, fun hl => ?_, ?_⟩
    · obtain ⟨hi, hfault⟩ := hfree hf hs hu
      obtain ⟨ks, kf, -⟩ := hga.rests (.inl hi)
      exact ⟨ks.trans hi, kf.trans hfault⟩
    · obtain ⟨hi, hfault⟩ := hkeep hf hn
      obtain ⟨ks, kf, -⟩ := hga.rests (.inr (.inl hi))
      exact ⟨ks.trans hi, kf.trans hfault⟩
    · exact (hga.rests (.inr (.inr (hlost hl)))).1.trans (hlost hl)
    · by_cases hr : (t.gen g).retryTimer = .stopped
      · exact .inl hr
      · have hnr : ¬((v.gen g).state = .idle ∨ (v.gen g).state = .faulted ∨ (v.gen g).state = .lost) := fun hx =>
          hr ((hga.rests hx).2.2.trans (hstopped g))
        refine .inr ⟨hend.resolve_right fun hall => hr (hall g), fun hf => hnr ?_,
          hga.retry.resolve_left fun he => hr (he.trans (hstopped g))⟩
        by_cases hset : (s.board (boardOf g)).settled = true ∧ (s.gen g).unconfirmed = false
        · exact .inl (hfree hf hset.1 hset.2).1
        · refine .inr (.inl (hkeep hf ?_).1)
          cases hb : (s.board (boardOf g)).settled <;> simp_all
  pans := forall₂_trans (S := PanKept) (fun p q r ⟨hn, hst⟩ hk => ⟨hk.number.trans hn, by rw [hk.state, hst]⟩)
    h.pans ht.pans
  captured p hp := ht.captured p _ (h.captured p hp)

end Sys2Proof.Machine
end

section
/-! PROOFS. The test of R84 that follows a leaving for STANDBY: what it does to the generators and to the route
record. -/

namespace Sys2Proof.Machine

open Sys2Proof.Safety

/-- R85, R91, R100: a generator as an operation begins or is abandoned: it may lose its pan, and a RUNNING one may be
ordered to stop. -/
structure GenRouted (x y : Gen) : Prop where
  pan : x.pan = none → y.pan = none
  retries : y.retries = x.retries
  retryTimer : y.retryTimer = x.retryTimer
  fault : y.fault = x.fault
  state : y.state = x.state ∨ (x.state = .running ∧ y.state = .stopping)

theorem GenRouted.refl (x : Gen) : GenRouted x x := ⟨id, rfl, rfl, rfl, .inl rfl⟩

theorem GenRouted.trans {x y z : Gen} (h : GenRouted x y) (h' : GenRouted y z) : GenRouted x z := by
  refine ⟨h'.pan ∘ h.pan, h'.retries.trans h.retries, h'.retryTimer.trans h.retryTimer, h'.fault.trans h.fault, ?_⟩
  rcases h.state with hs | ⟨hx, hy⟩ <;> rcases h'.state with hs' | ⟨hy', hz⟩
  · exact .inl (hs'.trans hs)
  · exact .inr ⟨hs ▸ hy', hz⟩
  · exact .inr ⟨hx, hs'.trans hy⟩
  · simp [hy] at hy'

theorem GenRouted.after {x y : Gen} (h : GenRouted x y) : GenAfter x y where
  pan := h.pan
  retries := h.retries
  rests hx := by
    refine ⟨h.state.resolve_right fun ⟨hr, _⟩ => ?_, h.fault, h.retryTimer⟩
    simp [hr] at hx
  retry := .inl h.retryTimer

section
variable (s : State)

theorem State.beginTransfer_gens : s.beginTransfer.gens = s.gens := by simp

theorem State.sendStopOrder_gens (wait : List Nat) (bd : Board) :
    List.Forall₂ GenRouted s.gens (s.sendStopOrder wait bd).gens := by
  unfold State.sendStopOrder
  dsimp only
  split
  · exact forall₂_of_eq .refl rfl
  · rw [State.emit_gens]
    refine s.mapGens_forall₂ fun g x _ => ?_
    split
    · refine ⟨id, rfl, rfl, rfl, ?_⟩
      by_cases hx : x.state = .running <;> simp [orderStop, hx]
    · exact .refl x

theorem State.tryOperation_gens : List.Forall₂ GenRouted s.gens s.tryOperation.gens := by
  have hsent : ∀ (wait : List Nat) (t : State),
      List.Forall₂ GenRouted t.gens ((t.sendStopOrder wait .a).sendStopOrder wait .b).gens := fun wait t =>
    forall₂_trans (R := GenRouted) (S := GenRouted) (fun _ _ _ => GenRouted.trans)
      (t.sendStopOrder_gens wait .a) (State.sendStopOrder_gens _ wait .b)
  have hmark : ∀ changed : List Nat, List.Forall₂ GenRouted s.gens
      (s.mapGens fun g x => if changed.contains g then { x with inOperation := true } else x).gens := fun changed =>
    s.mapGens_forall₂ fun g x _ => by split <;> exact ⟨id, rfl, rfl, rfl, .inl rfl⟩
  unfold State.tryOperation
  dsimp only
  split
  · rw [apply_ite State.gens, State.beginTransfer_gens, ite_self]
    refine forall₂_trans (R := GenRouted) (S := GenRouted) (fun _ _ _ => GenRouted.trans) ?_ (hsent _ _)
    exact hmark _
  · exact forall₂_of_eq .refl rfl

theorem State.tryOperation_after : After s s.tryOperation where
  toAside := s.tryOperation_aside
  served := forall₂_of_eq (fun _ => ⟨id, id⟩) (by simp)
  coils := forall₂_of_eq (fun _ => id) (by simp)
  gens := s.tryOperation_gens.imp fun _ _ => GenRouted.after
  lines := .of_eq (by simp) (by simp)
  captured p e he := by rwa [State.partner_congr (s := s) (by simp)]

variable {s}

theorem State.tryOperation_unready (h : s.route.stage ≠ .ready) : s.tryOperation = s := by
  simp [State.tryOperation, h]

theorem State.tryOperation_settled (h : s.desiredImage = s.latchedImage) : s.tryOperation = s := by
  simp [State.tryOperation, h]

/-- R84, R85: an operation starts, for the desired image. -/
theorem State.tryOperation_starts (h : s.route.stage = .ready) (hne : s.desiredImage ≠ s.latchedImage) :
    s.tryOperation.route.target = s.desiredImage ∧ s.tryOperation.route.stage ≠ .ready := by
  unfold State.tryOperation
  simp only [h, hne, decide_true, ne_eq, not_false_eq_true, Bool.and_self, if_true]
  split <;> simp [State.beginTransfer]

/-! ### The route record after a leaving for STANDBY (R83, R84) -/

theorem State.desiredImage_open (h : ∀ c < 48, (s.coil c).desired = none) :
    s.desiredImage = List.replicate 48 none :=
  List.eq_replicate_iff.2 ⟨rfl, by simpa [State.desiredImage, coilIds] using h⟩

theorem State.latchedImage_open_iff :
    s.latchedImage = List.replicate 48 none ↔ ∀ c < 48, (s.coil c).latched = none := by
  rw [List.eq_replicate_iff]; simp [State.latchedImage, coilIds]

theorem State.left_coil (m : Mode) (c : Nat) : (s.left m).coil c = { s.coil c with desired := none } := by
  simp only [State.coil, State.left_coils, List.getElem?_map]
  cases s.coils[c]? <;> rfl

theorem State.leaveActive_route : RouteLeft s (s.leaveActive .standby) := by
  have hdesired : (s.left .standby).desiredImage = List.replicate 48 none :=
    State.desiredImage_open fun c _ => by rw [State.left_coil]
  have hlatched : (s.left .standby).latchedImage = s.latchedImage :=
    List.map_congr_left fun c _ => by rw [State.left_coil]
  rw [State.leaveActive_standby]
  refine ⟨fun _ => ⟨fun hstage => ?_, fun _ hopen => ?_, fun hstage ⟨c, hc, hcl⟩ => ?_⟩, fun hm => ?_⟩
  · rw [State.tryOperation_unready (by simpa using hstage), State.left_route]
  · rw [State.tryOperation_settled (by rw [hdesired, hlatched, State.latchedImage_open_iff.2 hopen]), State.left_route]
  · rw [← hdesired]
    refine State.tryOperation_starts (by simpa using hstage) fun he => hcl ?_
    exact State.latchedImage_open_iff.1 (hlatched ▸ he ▸ hdesired) c hc
  · simp at hm

end

theorem coil_latched_of_images {s t : State} (h : List.Forall₂ ImageKept s.coils t.coils) (c : Nat) :
    (t.coil c).latched = (s.coil c).latched := (getD_of_forall₂ h (.refl _) c).latched

theorem RouteLeft.around {s u v t : State} (h : RouteLeft u v) (hs : Stands s u) (hv : v.ctl.mode = .standby)
    (hr : t.route = v.route) (ht : t.ctl.mode = .standby) : RouteLeft s t := by
  simp only [RouteLeft, hv, hs.route, coil_latched_of_images hs.coils, forall_true_left] at h
  simpa only [RouteLeft, ht, hr, forall_true_left] using h

end Sys2Proof.Machine
end

section
/-! PROOFS. The entry to HALT from ACTIVE (R145), and what leaving ACTIVE is for a command. -/

namespace Sys2Proof.Machine

open Sys2Proof.Safety

/-! ### The entry to HALT from ACTIVE (R91, R145) -/

section
variable (s : State)

theorem State.routeHalt_gens : List.Forall₂ GenRouted s.gens s.routeHalt.gens := by
  unfold State.routeHalt
  split
  · exact forall₂_of_eq .refl rfl
  · simp only [State.tryHaltShift_frame, State.openImage, List.map_map]
    exact forall₂_map_self fun _ _ => ⟨fun _ => rfl, rfl, rfl, rfl, .inl rfl⟩

theorem State.tryHaltShift_stage : s.tryHaltShift.route.stage = s.route.stage := by
  unfold State.tryHaltShift; split <;> rfl

theorem State.routeHalt_stage : s.routeHalt.route.stage = .halted := by
  unfold State.routeHalt
  split
  · assumption
  · rw [State.tryHaltShift_stage]

theorem State.routeHalt_after : After s s.routeHalt where
  toAside := s.routeHalt_aside
  served := by
    unfold State.routeHalt
    split
    · exact forall₂_of_eq (fun _ => ⟨id, id⟩) rfl
    · simp only [State.tryHaltShift_frame]
      exact forall₂_map_self fun _ _ => ⟨fun _ => rfl, fun _ => rfl⟩
  coils := by
    unfold State.routeHalt
    split
    · exact forall₂_of_eq (fun _ => id) rfl
    · simp only [State.tryHaltShift_frame]
      exact forall₂_map_self fun _ _ _ => rfl
  gens := s.routeHalt_gens.imp fun _ _ => GenRouted.after
  lines := .of_eq (by simp) (by simp)
  captured p e he := by rwa [State.partner_congr (s := s) (by simp)]

variable {s}

theorem State.judgeLines_after (hm : s.ctl.mode ≠ .active) (hline : ∀ bd, (s.board bd).line = false) :
    After s s.judgeLines where
  toAside := .of_eq
  served := forall₂_of_eq (fun _ => ⟨id, id⟩) (by simp)
  coils := forall₂_of_eq (fun _ => id) (by simp)
  gens := forall₂_of_eq .refl (by simp)
  lines bd := by
    rw [State.judgeLines_board, State.judgeLine_unwanted (by simp [State.lineWanted, hm]), lineDropped, hline bd]
    exact .refl _
  captured p e he := by rwa [State.partner_congr (s := s) (by simp)]

/-- R145 in ACTIVE: what enters HALT beside the leaving: the causes and HALTED. -/
def State.halted (c : HaltCause) (s : State) : State :=
  ({ s with ctl := { s.ctl with haltCause := c, lastHalt := c } } : State).capture .halted

theorem State.enterHalt_active (h : s.ctl.mode = .active) (c : HaltCause) :
    s.enterHalt c = ((s.left .halt).halted c).judgeLines.routeHalt := by
  unfold State.enterHalt State.modeToHalt
  simp only [h, State.leaveActive_halt, reduceCtorEq, if_false]
  rfl

theorem State.halted_after (c : HaltCause) (hm : s.ctl.mode ≠ .active) : After s (s.halted c) where
  toAside := .of_mode (fun hc => hm hc.mode) (fun _ => hm) rfl rfl rfl
  served := forall₂_of_eq (fun _ => ⟨id, id⟩) rfl
  coils := forall₂_of_eq (fun _ => id) rfl
  gens := forall₂_of_eq .refl rfl
  lines := .of_eq rfl rfl
  captured :=
    (State.capture_leaves ({ s with ctl := { s.ctl with haltCause := c, lastHalt := c } }) .halted).sets.captured

/-- R145: the entry to HALT from ACTIVE. -/
structure HaltEntered (s t : State) : Prop where
  after : After (s.left .halt) t
  gens : List.Forall₂ GenRouted (s.left .halt).gens t.gens
  mode : t.ctl.mode = .halt
  stage : t.route.stage = .halted

theorem State.enterHalt_entered (h : s.ctl.mode = .active) (c : HaltCause) : HaltEntered s (s.enterHalt c) := by
  have hline : ∀ bd, (((s.left .halt).halted c).board bd).line = false := fun bd => by
    obtain ⟨hl, -⟩ := (s.left_seen (m := .halt) (by decide)).boards bd
    exact hl
  have hmode : ((s.left .halt).halted c).ctl.mode = .halt := by simp [State.halted]
  rw [State.enterHalt_active h]
  refine ⟨?_, ?_, ?_, State.routeHalt_stage _⟩
  · exact ((State.halted_after c (by simp)).trans (State.judgeLines_after (by simp [hmode]) hline)).trans
      (State.routeHalt_after _)
  · have hg : (s.left .halt).gens = ((s.left .halt).halted c).judgeLines.gens := by simp [State.halted]
    rw [hg]; exact State.routeHalt_gens _
  · simpa using hmode

end

/-! ### Leaving ACTIVE -/

/-- From `s` to `t` the device leaves ACTIVE, at the moment `left`. -/
inductive Leaves (s t : State) (left : Nat) : Prop
  | standby (u : State) (before : Stands s u) (now : u.now = left) (after : Stands (u.leaveActive .standby) t)
      (mode : t.ctl.mode = .standby)
  | halt (u : State) (before : Before s u) (now : u.now = left) (after : After (u.left .halt) t)
      (mode : t.ctl.mode = .halt) (stage : t.route.stage = .halted)

theorem State.leaveActive_stopped (s : State) (g : Nat) :
    ((s.leaveActive .standby).gen g).retryTimer = .stopped := by
  obtain ⟨-, -, hstopped⟩ := s.left_gens (m := .standby) (by decide) g
  rw [State.leaveActive_standby]
  exact (gen_of_forall₂ (State.tryOperation_gens _) (.refl _) g).retryTimer.trans hstopped

theorem State.left_stopped (s : State) (g : Nat) : ((s.left .halt).gen g).retryTimer = .stopped := by
  obtain ⟨-, -, hstopped⟩ := s.left_gens (m := .halt) (by decide) g
  exact hstopped

theorem State.leaveActive_seen (s : State) : LeavingSeen s (s.leaveActive .standby) s.now := by
  have hstopped := s.leaveActive_stopped
  rw [State.leaveActive_standby] at hstopped ⊢
  refine (s.left_seen (by decide)).after (fun g => ?_) (State.tryOperation_after _) (.inr hstopped)
  obtain ⟨-, -, h⟩ := s.left_gens (m := .standby) (by decide) g
  exact h

/-- R143: every effect of a leaving. -/
theorem Leaves.shows {s t : State} {left : Nat} (h : Leaves s t left) :
    (t.ctl.mode = .standby → ActiveLeft t) ∧ LeavingShows s t left := by
  cases h with
  | standby u hb hnow ha hm =>
    have hstopped : ∀ g, (t.gen g).retryTimer = .stopped := fun g =>
      (gen_of_forall₂ ha.gens (.refl _) g).retryTimer.trans (u.leaveActive_stopped g)
    obtain ⟨hbehind, hboards, hgens, hpans, hcap⟩ :=
      (hnow ▸ u.leaveActive_seen.after u.leaveActive_stopped ha.isAfter (.inr hstopped)).before hb.before
    have hroute : RouteLeft s t :=
      RouteLeft.around u.leaveActive_route hb (by simp [State.leaveActive_standby]) ha.route hm
    refine ⟨fun _ => ⟨hbehind, fun x hx => ?_⟩, hbehind, hboards, fun g _ => hgens g, hroute, hpans, hcap⟩
    obtain ⟨g, rfl⟩ := State.exists_gen hx
    exact hstopped g
  | halt u hb hnow ha hm hstage =>
    obtain ⟨hbehind, hboards, hgens, hpans, hcap⟩ :=
      (hnow ▸ (u.left_seen (m := .halt) (by decide)).after u.left_stopped ha (.inl hm)).before hb
    have hroute : RouteLeft s t := ⟨fun h => by simp [hm] at h, fun _ => hstage⟩
    exact ⟨fun h => by simp [hm] at h, hbehind, hboards, fun g _ => hgens g, hroute, hpans, hcap⟩

theorem Leaves.rests {s t : State} {left : Nat} (h : Leaves s t left) : AtRest t := by
  obtain ⟨-, ⟨hpans, hrec, hpause, htimer, hpermit, hoff, -⟩, -⟩ := h.shows
  refine ⟨fun p hp => ?_, hrec, hpause, htimer, hpermit, hoff⟩
  obtain ⟨hl, hs, hb, -⟩ := hpans p hp
  exact ⟨hl, hs, hb⟩

theorem Leaves.table {s t : State} {left : Nat} (h : Leaves s t left) (hs : TableSound s) : TableSound t := by
  cases h with
  | standby u hb _ ha _ =>
    have hleft : TableSound (u.leaveActive .standby) := by
      rw [State.leaveActive_standby]
      exact (State.tryOperation_aside _).table.sound (u.left_table.sound (hb.table.sound hs))
    exact ha.table.sound hleft
  | halt u hb _ ha _ _ => exact ha.table.sound (u.left_table.sound (hb.table.sound hs))

/-- From `s` to `t` either the device leaves ACTIVE, at the moment `left`, or it neither enters nor leaves it. -/
def MayLeave (s t : State) (left : Nat) : Prop := Keeps s t ∨ Leaves s t left

section
variable {s u t : State} {left : Nat}

theorem Keeps.mayLeave (h : Keeps s t) : MayLeave s t left := .inl h

theorem Aside.mayLeave (h : Aside s t) : MayLeave s t left := .inl h.keeps

theorem MayLeave.before (h : MayLeave u t left) (hs : Stands s u) : MayLeave s t left := by
  rcases h with h | h
  · exact .inl (hs.keeps.trans h)
  · cases h with
    | standby v hb hnow ha hm => exact .inr (.standby v (hs.trans hb) hnow ha hm)
    | halt v hb hnow ha hm hstage => exact .inr (.halt v (hs.before.trans hb) hnow ha hm hstage)

theorem MayLeave.andThen (h : MayLeave s u left) (ht : Stands u t)
    (hc : u.ctl.mode ≠ .active → t.ctl.mode = u.ctl.mode) :
    MayLeave s t left := by
  rcases h with h | h
  · exact .inl (h.trans ht.keeps)
  · cases h with
    | standby v hb hnow ha hm => exact .inr (.standby v hb hnow (ha.trans ht) ((hc (by simp [hm])).trans hm))
    | halt v hb hnow ha hm hstage =>
      exact .inr (.halt v hb hnow (ha.trans ht.isAfter) ((hc (by simp [hm])).trans hm) (ht.route ▸ hstage))

/-- R142. -/
theorem State.leaveForStandby_mayLeave (s : State) : MayLeave s s.leaveForStandby s.now := by
  unfold State.leaveForStandby
  split
  · exact .inr (.standby s (.of_eq (.of_links rfl)) rfl (.of_eq (.of_links rfl)) (by simp [State.leaveActive_standby]))
  · exact .inl .refl

/-- R145. -/
theorem Before.enterHalt {c : HaltCause} (h : Before s u) : MayLeave s (u.enterHalt c) u.now := by
  by_cases hm : u.ctl.mode = .active
  · obtain ⟨ha, -, hhalt, hstage⟩ := State.enterHalt_entered hm c
    exact .inr (.halt u h rfl ha hhalt hstage)
  · exact (h.toAside.trans (u.enterHalt_aside hm c)).mayLeave

end

end Sys2Proof.Machine
end

section
/-! PROOFS. The commands that leave ACTIVE: the mains (R5, R9), the chain (R88) and the reports (R99). -/

namespace Sys2Proof.Machine

open Sys2Proof.Safety

/-! ### The mains (R2 to R9) -/

section
variable (s : State)

theorem State.modFrame_leaves (f : FrameRec → FrameRec) : Stands s (s.modFrame f) := .of_eq (.of_links rfl)

theorem State.leaveForStandby_mode (h : s.ctl.mode = .active) : s.leaveForStandby.ctl.mode = .standby := by
  simp [State.leaveForStandby, h, State.leaveActive_standby]

/-- R9: the leaving and the free frame, in either order (log 12). -/
theorem State.l1Lost_mayLeave : MayLeave s s.l1Lost s.now := by
  have hchoice : Stands s { s with choices := s.choices + 1 } := .of_eq (.of_links rfl)
  unfold State.l1Lost
  dsimp only
  split
  · exact s.leaveForStandby_mayLeave
  · split
    · rename_i hm
      split
      · have hstandby : ({ s with choices := s.choices + 1 } : State).leaveForStandby.ctl.mode = .standby :=
          State.leaveForStandby_mode _ hm
        exact ((State.leaveForStandby_mayLeave _).before hchoice).andThen (State.freeFrame_leaves _)
          fun _ => (State.freeFrame_standby _ hstandby).trans hstandby.symm
      · have h := State.leaveForStandby_mayLeave ({ s with choices := s.choices + 1 } : State).freeFrame
        rw [(State.freeFrame_frame _).1] at h
        exact h.before (hchoice.trans (State.freeFrame_leaves _))
    · exact s.freeFrame_aside.mayLeave

theorem State.l1Changed_mayLeave (before : Sync) : MayLeave s (s.l1Changed before) s.now := by
  unfold State.l1Changed
  (repeat' split)
  · exact s.judgeStart_aside.mayLeave
  · exact s.l1Lost_mayLeave
  · exact .inl .refl

theorem State.l1Changed_valid (before : Sync) (h : s.mains.l1.sync = .valid) : Aside s (s.l1Changed before) := by
  unfold State.l1Changed
  simp only [h, ne_eq, not_true_eq_false, decide_false, Bool.and_false, Bool.false_eq_true, if_false]
  split
  · exact s.judgeStart_aside
  · exact .refl

theorem State.edgeExpired_mayLeave (ph : Phase) : MayLeave s (s.edgeExpired ph) s.now := by
  unfold State.edgeExpired
  cases ph with
  | l1 => exact (State.l1Changed_mayLeave _ _).before (s.modPhase_leaves .l1 absentSync)
  | l2 => exact (s.modPhase_leaves .l2 absentSync).mayLeave

theorem State.frameEdge_keeps : Keeps s s.frameEdge := by
  unfold State.frameEdge
  dsimp only
  (repeat' split)
  · exact .refl
  · exact s.syncedFrame_aside.keeps
  · exact s.syncedFrame_aside.keeps
  · exact (s.modFrame_leaves _).keeps.trans (State.trackingPoint_keeps _)
  · exact (s.modFrame_leaves _).keeps

theorem State.edgeTaken_mayLeave (ph : Phase) : MayLeave s (s.edgeTaken ph) s.now := by
  unfold State.edgeTaken
  cases ph with
  | l1 =>
    dsimp only
    split
    · rename_i hv
      exact (((s.modPhase_leaves .l1 _).toAside.trans (State.l1Changed_valid _ _ hv)).keeps.trans
        (State.frameEdge_keeps _)).mayLeave
    · exact (State.l1Changed_mayLeave _ _).before (s.modPhase_leaves .l1 _)
  | l2 => exact (s.modPhase_leaves .l2 _).mayLeave

/-! ### An edge that comes late (R5, log 3) -/

theorem State.freeFrame_sync : s.freeFrame.mains.l1.sync = s.mains.l1.sync := by
  have hphases : ∀ t : State, t.startPhases.mains.l1.sync = t.mains.l1.sync := fun t => by
    unfold State.startPhases; simp [startPhase]
  unfold State.freeFrame State.frameStart
  simp [hphases]

theorem State.edgeExpired_absent : (s.edgeExpired .l1).mains.l1.sync = .absent := by
  have hlost : ∀ t : State, t.l1Lost.mains.l1.sync = t.mains.l1.sync := fun t => by
    unfold State.l1Lost; dsimp only; (repeat' split) <;> simp [State.freeFrame_sync]
  have hchanged : ∀ (t : State) (b : Sync), (t.l1Changed b).mains.l1.sync = t.mains.l1.sync := fun t b => by
    unfold State.l1Changed; (repeat' split) <;> simp [hlost]
  exact hchanged _ _

/-- R2: after a missed edge an edge does no more than begin to acquire. -/
theorem State.edgeTaken_absent (h : s.mains.l1.sync = .absent) :
    s.edgeTaken .l1 = s.modPhase .l1 (edgeSync s.now) := by
  have hsync : (s.modPhase .l1 (edgeSync s.now)).mains.l1.sync = .acquiring := by
    show (edgeSync s.now s.mains.l1).sync = .acquiring
    simp [edgeSync, h]
  unfold State.edgeTaken State.l1Changed
  dsimp only
  rw [hsync, show (s.phase .l1).sync = .absent from h]
  simp

theorem State.lateEdge_leaves (h : s.mains.l1.sync = .absent) (t : Nat) :
    Stands s ((s.elapseTo t).edgeTaken .l1) ∧ ((s.elapseTo t).edgeTaken .l1).ctl = s.ctl := by
  rw [State.edgeTaken_absent _ (by simpa using h)]
  exact ⟨(s.elapseTo_stands t).trans (State.modPhase_leaves _ _ _), by simp⟩

theorem leavingMoment_of_not_late {s t : State} {ph : Phase} {wait : Nat}
    (h : s.edgeOverdue ph (s.now + wait) = false) :
    leavingMoment s t (.zeroCrossEdge ph wait) = t.now := by
  cases ph with
  | l2 => rfl
  | l1 =>
    unfold leavingMoment
    unfold State.edgeOverdue State.phase at h
    cases hd : s.mains.l1.edgeTimer with
    | none => rfl
    | some d => rw [hd] at h; simpa using fun hlt => absurd hlt (by simpa using h)

/-- R5, R142: an edge leaves ACTIVE at its own moment, but for the edge that comes after its edge timer has run out. -/
theorem execZeroCrossEdge_mayLeave {t : State} (ph : Phase) (wait : Nat) (h : execZeroCrossEdge ph wait s = .next t) :
    MayLeave s t (leavingMoment s t (.zeroCrossEdge ph wait)) := by
  have hedge : ∀ u : State, MayLeave u (u.edgeTaken ph) (u.edgeTaken ph).now := fun u => by
    rw [(State.edgeTaken_frame _ ph).1]; exact u.edgeTaken_mayLeave ph
  obtain rfl : _ = t := Host.Outcome.next.inj h
  dsimp only
  split
  · exact (s.elapse_aside wait).mayLeave
  · cases hlate : s.edgeOverdue ph (s.now + wait) with
    | false =>
      rw [leavingMoment_of_not_late hlate]
      simp only [Bool.false_eq_true, if_false]
      exact (hedge _).before (s.elapseTo_stands _)
    | true =>
      obtain ⟨d, hd, hlt⟩ : ∃ d, (s.phase ph).edgeTimer = some d ∧ d < s.now + wait := by
        unfold State.edgeOverdue at hlate
        split at hlate <;> simp_all
      simp only [if_true, hd, State.expire_some]
      cases ph with
      | l2 => exact (((s.elapseTo_stands d).trans (State.modPhase_leaves _ .l2 absentSync)).trans
          ((State.elapseTo_stands _ _).trans (State.modPhase_leaves _ .l2 _))).mayLeave
      | l1 =>
        have hd : s.mains.l1.edgeTimer = some d := hd
        have hexp := (s.elapseTo d).edgeExpired_mayLeave .l1
        obtain ⟨hstands, hctl⟩ := State.lateEdge_leaves _ (State.edgeExpired_absent (s.elapseTo d)) (s.now + wait)
        have hmoment : ∀ t, leavingMoment s t (.zeroCrossEdge .l1 wait) = (s.elapseTo d).now := fun t => by
          simp [leavingMoment, hd, hlt]
        rw [hmoment]
        exact (hexp.before (s.elapseTo_stands d)).andThen hstands fun _ => by rw [hctl]

end

/-! ### The chain (R87, R88) -/

section
variable {s : State}

theorem State.latch_gens (image : List (Option Nat)) :
    (s.latch image).gens = (s.mapGens fun g x => { x with coils := coilSet image g }).gens := by
  simp [State.latch, State.mapGens]

/-- R87: the latching of an image and its ROUTING generators, before a HALT. -/
theorem State.latch_before (image : List (Option Nat)) : Before s (s.latch image).routeChanged where
  toAside := .of_eq
  gens := by
    refine gen_of_forall₂ ?_ ⟨.rfl, id, rfl, rfl⟩
    refine forall₂_trans (R := FaultKept) (S := FaultKept) (m := (s.latch image).gens)
      (fun _ _ _ => FaultKept.trans) ?_ (State.mapGens_forall₂ _ fun g x _ => ?_)
    · rw [State.latch_gens]
      exact s.mapGens_forall₂ fun _ _ _ => ⟨.rfl, id, rfl, rfl⟩
    · split
      · rename_i h
        simp only [Bool.and_eq_true, decide_eq_true_eq] at h
        obtain ⟨⟨-, hfaulted⟩, hlost⟩ := h
        exact ⟨by simp [hfaulted], fun hl => absurd hl hlost, rfl, rfl⟩
      · exact ⟨.rfl, id, rfl, rfl⟩
  lines := .of_eq (by simp) (by simp)
  enabled p := by rw [State.partner_congr (s := s) (by simp)]

theorem Before.withRoute {u : State} (h : Before s u) (r : Route) : Before s { u with route := r } :=
  ⟨h.toAside.trans .of_eq, h.gens, h.lines, h.enabled⟩

theorem State.transferComplete_mayLeave (w : ChainWord) : MayLeave s (s.transferComplete w) s.now := by
  have hb : Before s (s.latch s.route.target).routeChanged := s.latch_before _
  have hnow : (s.latch s.route.target).routeChanged.now = s.now := by simp
  unfold State.transferComplete
  generalize (s.latch s.route.target).routeChanged = u at hb hnow
  dsimp only
  split
  · rw [← hnow]; exact (hb.withRoute { u.route with compare := true }).enterHalt
  · exact (hb.toAside.trans .of_eq).mayLeave

theorem execChainTransferComplete_mayLeave {t : State} {w : ChainWord} (h : execChainTransferComplete w s = .next t) :
    MayLeave s t t.now := by
  obtain rfl : _ = t := Host.Outcome.next.inj h
  refine State.unlessReset_keeps (Inv := fun t => MayLeave s t t.now) (.inl .refl) fun _ => ?_
  (repeat' split)
  · rw [(State.transferComplete_frame _ w).1]; exact State.transferComplete_mayLeave w
  · exact s.haltShiftComplete_aside.mayLeave
  · exact .inl .refl

/-! ### Reports (R97, R99) -/

theorem State.takeGenFields_aside (bd : Board) (r : BoardReport) : Aside s (s.takeGenFields bd r) := .of_eq

/-- R106, R107: a generator whose retry timer has not expired is not retried, so a report at most makes it FAULTED. -/
theorem takeGenReport_after {x : Gen} (hx : x.retryTimer ≠ .expired) (now : Nat) (r : GenReport) :
    GenAfter x (takeGenReport now r x) := by
  have hretry : retryTaken r x = false := by simp [retryTaken, hx]
  unfold takeGenReport
  dsimp only
  split
  · rename_i hf
    refine ⟨id, rfl, fun hrests => ?_, .inr rfl⟩
    rcases hrests with h | h | h <;> simp [faultTaken, h] at hf
  · simp only [hretry, Bool.false_eq_true, if_false]
    exact ⟨id, rfl, fun _ => ⟨rfl, rfl, rfl⟩, .inl rfl⟩

theorem State.takeGenFields_after (hs : ∀ x ∈ s.gens, x.retryTimer ≠ .expired) (bd : Board) (r : BoardReport) :
    After s (s.takeGenFields bd r) where
  toAside := State.takeGenFields_aside bd r
  served := forall₂_of_eq (fun _ => ⟨id, id⟩) (by simp)
  coils := forall₂_of_eq (fun _ => id) (by simp)
  gens := by
    have hg : (s.takeGenFields bd r).gens =
        (s.mapGens fun g x => if boardOf g = bd then takeGenReport s.now (reportBlock r g) x else x).gens := by
      unfold State.takeGenFields; simp
    rw [hg]
    refine s.mapGens_forall₂ fun g x hx => ?_
    split
    · exact takeGenReport_after (hs x hx) _ _
    · exact .refl x
  lines := .of_eq (by simp) (by simp)
  captured := (s.takeGenFields_stands bd r).captured

theorem HaltEntered.stopped {t : State} (h : HaltEntered s t) {x : Gen} (hx : x ∈ t.gens) :
    x.retryTimer ≠ .expired := by
  obtain ⟨y, hy, hxy⟩ := exists_left_of_forall₂ h.gens hx
  obtain ⟨g, rfl⟩ := State.exists_gen hy
  simp [hxy.retryTimer, s.left_stopped g]

/-- R97: what a report does after the drive-after-stop check. -/
def State.takeValues (bd : Board) (r : BoardReport) (s : State) : State :=
  let t := if s.store.settings.showroom then s else s.intake (reportReading bd r)
  ((t.modPhase (boardPhase bd) (PhaseRec.takeVoltage r.voltage)).takeGenFields bd r).modBoard bd
    (fun x => { x with lastReport := some r })

theorem State.takeReport_eq (bd : Board) (r : BoardReport) : s.takeReport bd r =
    (if s.driveAfterStop bd r then s.enterHalt .driveAfterStop else s).takeValues bd r := rfl

/-- Before a report's generator fields are taken, its samples and its voltage are. -/
theorem State.takeValues_fields (s : State) (bd : Board) (r : BoardReport) : ∃ u, Stands s u ∧ u.gens = s.gens ∧
    s.takeValues bd r = (u.takeGenFields bd r).modBoard bd (fun x => { x with lastReport := some r }) := by
  refine ⟨_, ?_, ?_, rfl⟩
  · split
    · exact State.modPhase_leaves _ _ _
    · exact (s.intake_leaves _).trans (State.modPhase_leaves _ _ _)
  · split <;> simp

theorem State.lastReport_leaves (s : State) (bd : Board) (r : BoardReport) :
    Stands s (s.modBoard bd (fun x => { x with lastReport := some r })) :=
  s.modBoard_leaves bd fun _ => ⟨rfl, rfl, rfl, rfl, rfl⟩

theorem State.takeValues_aside (s : State) (bd : Board) (r : BoardReport) : Aside s (s.takeValues bd r) := by
  obtain ⟨u, hu, -, he⟩ := s.takeValues_fields bd r
  rw [he]
  exact (hu.toAside.trans (State.takeGenFields_aside bd r)).trans (State.lastReport_leaves _ bd r).toAside

theorem State.takeValues_after (hs : ∀ x ∈ s.gens, x.retryTimer ≠ .expired) (bd : Board) (r : BoardReport) :
    After s (s.takeValues bd r) := by
  obtain ⟨u, hu, hgens, he⟩ := s.takeValues_fields bd r
  rw [he]
  exact (hu.isAfter.trans (State.takeGenFields_after (by rwa [hgens]) bd r)).trans
    (State.lastReport_leaves _ bd r).isAfter

theorem State.takeValues_keeps (s : State) (bd : Board) (r : BoardReport) :
    (s.takeValues bd r).now = s.now ∧ (s.takeValues bd r).ctl = s.ctl ∧ (s.takeValues bd r).route = s.route := by
  unfold State.takeValues; dsimp only; split <;> simp

theorem State.takeReport_mayLeave {u : State} (h : Before s u) (bd : Board) (r : BoardReport) :
    MayLeave s (u.takeReport bd r) u.now := by
  rw [State.takeReport_eq]
  split
  · by_cases hm : u.ctl.mode = .active
    · have he := State.enterHalt_entered hm .driveAfterStop
      obtain ⟨-, hctl, hroute⟩ := (u.enterHalt .driveAfterStop).takeValues_keeps bd r
      exact .inr (.halt u h rfl (he.after.trans (State.takeValues_after (fun _ => he.stopped) bd r))
        (hctl ▸ he.mode) (hroute ▸ he.stage))
    · exact (h.toAside.trans ((u.enterHalt_aside hm _).trans (State.takeValues_aside _ bd r))).mayLeave
  · exact (h.toAside.trans (State.takeValues_aside _ bd r)).mayLeave


theorem State.held_leaves (s : State) (bd : Board) (x : Option (Byte × List Nat)) :
    Stands s (s.modBoard bd (fun r => { r with held := x })) :=
  s.modBoard_leaves bd fun _ => ⟨rfl, rfl, rfl, rfl, rfl⟩

theorem State.reportFrame_mayLeave (s : State) (bd : Board) (f : Frame) : MayLeave s (s.reportFrame bd f) s.now := by
  have htake : ∀ r, MayLeave s ((s.modBoard bd (fun r => { r with held := none })).takeReport bd r) s.now := fun r => by
    have h := State.takeReport_mayLeave (s.held_leaves bd none).before bd r
    rwa [State.modBoard_now] at h
  unfold State.reportFrame
  dsimp only
  (repeat' split)
  · exact (s.held_leaves bd _).mayLeave
  · exact (s.held_leaves bd _).mayLeave
  · exact htake _
  · exact (s.held_leaves bd _).mayLeave
  · exact .inl .refl

theorem execReport_mayLeave {t : State} {bd : Board} (h : execReport bd s = .next t) : MayLeave s t t.now := by
  obtain rfl : _ = t := Host.Outcome.next.inj h
  refine State.unlessReset_keeps (Inv := fun t => MayLeave s t t.now) (.inl .refl) fun _ => ?_
  obtain hnone | ⟨f, rest, -, -, -, htaken⟩ := s.takeBoardFrame_cases bd kindReport (State.reportFrame bd)
  · rw [hnone]; exact .inl .refl
  · rw [htaken]
    have h := (State.reportFrame_mayLeave _ bd f).before (s.modBoardLink_leaves bd fun r => { r with queue := rest })
    rwa [← (State.reportFrame_frame _ bd f).1] at h
end

end Sys2Proof.Machine
end

section
/-! PROOFS. The commands that touch the levels, the recall list or the settings: what they keep. -/

namespace Sys2Proof.Machine

open Sys2Proof.Safety

/-! ### The levels (R60 to R71) -/

/-- A command whose conditions hold in no resting device keeps all, when it keeps the table and the modes. -/
theorem Keeps.of_table {s t : State} (h : TableKept s t) (hrest : Resting s → AtRest t)
    (hc : t.ctl = s.ctl := by simp) (hv : t.survey = s.survey := by simp)
    (hx : t.resetting = s.resetting := by simp) : Keeps s t where
  table := h.sound
  rest hs := ⟨hrest hs, hc ▸ hs.mode⟩
  cooking h := ⟨hc ▸ h.mode, hv ▸ h.survey, hc ▸ h.startTimer, hx ▸ h.resetting⟩

section
variable {s : State}

theorem activeOnly_none {m : Mode} (h : activeOnly m = none) : m = .active := by
  cases m <;> simp [activeOnly] at h ⊢

/-- R59: a Set Level is taken in ACTIVE alone, for a pan of the table. -/
theorem State.levelVerdict_none {p : Partner} {n level : Nat} (h : s.levelVerdict p n level = none) :
    s.ctl.mode = .active ∧ n ∈ panNumbers s := by
  cases hm : activeOnly s.ctl.mode with
  | some r => simp [State.levelVerdict, hm] at h
  | none =>
    cases hp : findPan s.pans n with
    | some q => exact ⟨activeOnly_none hm, mem_panNumbers hp⟩
    | none => unfold State.levelVerdict at h; simp only [hm, hp] at h; split at h <;> cases h

theorem State.takeLevel_keeps {p : Partner} {n level : Nat} (h : s.levelVerdict p n level = none) :
    Keeps s (s.takeLevel p n level) := by
  obtain ⟨hm, hn⟩ := State.levelVerdict_none h
  refine .of_table ⟨?_, .inr ⟨n, hn, ?_⟩, ?_⟩ (fun hs => absurd hm hs.mode) ?_ ?_ ?_
  · have hp : (s.takeLevel p n level).pans =
        (s.modPan n (Pan.setLevel s.store.settings.boostDuration level (partnerSource p))).pans := by
      simp [State.takeLevel]
    rw [hp]; exact forall₂_modPan PlaceKept.refl s n fun _ => ⟨rfl, rfl, id⟩
  all_goals simp [State.takeLevel]

theorem State.takeAllOff_keeps (hm : s.ctl.mode = .active) (p : Partner) : Keeps s (s.takeAllOff p) := by
  have hpans : (s.takeAllOff p).pans = s.pans.map (fun q => { q.switchOff with source := partnerSource p }) := by
    unfold State.takeAllOff State.endPause; dsimp only; split <;> simp
  refine .of_table ⟨hpans ▸ forall₂_map_self fun _ _ => ⟨rfl, rfl, id⟩, .inl ?_, ?_⟩ (fun hs => absurd hm hs.mode)
    ?_ ?_ ?_
  all_goals unfold State.takeAllOff State.endPause; dsimp only; split <;> simp

theorem State.withPermit_keeps (hm : s.ctl.mode = .active) (v : Permit) :
    Keeps s { s with levels := { s.levels with permit := v } } :=
  .of_table ⟨forall₂_of_eq .refl rfl, .inl rfl, le_rfl⟩ (fun hs => absurd hm hs.mode)

theorem State.beginPause_keeps (hm : s.ctl.mode = .active) : Keeps s s.beginPause := by
  refine .of_table ⟨forall₂_of_eq .refl ?_, .inl ?_, ?_⟩ (fun hs => absurd hm hs.mode) ?_ ?_ ?_
  all_goals simp [State.beginPause]

theorem State.resume_keeps (hm : s.ctl.mode = .active) : Keeps s s.endPause.judgeAutoOff := by
  refine .of_table ⟨forall₂_of_eq .refl ?_, .inl ?_, ?_⟩ (fun hs => absurd hm hs.mode) ?_ ?_ ?_
  all_goals simp [State.endPause]

/-- R71, R73: the pause timer runs in no resting device. -/
theorem State.pauseExpired_keeps (ht : s.levels.pauseTimer ≠ none) : Keeps s s.pauseExpired := by
  have hpans : s.pauseExpired.pans = s.pans.map Pan.switchOff := by simp [State.pauseExpired, State.endPause]
  refine .of_table ⟨hpans ▸ forall₂_map_self fun _ _ => ⟨rfl, rfl, id⟩, .inl ?_, ?_⟩ (fun hs => ?_) ?_ ?_ ?_
  case refine_3 =>
    obtain ⟨-, htimer, -⟩ := hs.levels
    exact absurd htimer ht
  all_goals simp [State.pauseExpired, State.endPause]

/-- R69, R73: a boost counts in no resting device. -/
theorem State.boostExpired_keeps {n : Nat} {p : Pan} (hp : findPan s.pans n = some p)
    (hb : p.boostCounts s.levels.pause = true) (dt : Nat) :
    Keeps s (((s.elapse dt).modPan n Pan.endBoost).capture .boostEnded) := by
  have htable : TableKept s (((s.elapse dt).modPan n Pan.endBoost).capture .boostEnded) := by
    refine ⟨?_, .inl (by simp), by simp⟩
    exact forall₂_trans (R := PanKept) (S := PlaceKept) (fun _ _ _ h h' => ⟨h'.number.trans h.number,
      h'.footprint.trans h.footprint, h'.gens ∘ h.gens⟩) (s.elapse_aside dt).pans
      (forall₂_modPan PlaceKept.refl _ n fun _ => ⟨rfl, rfl, id⟩)
  refine .of_table htable fun hs => ?_
  obtain ⟨-, -, hboost⟩ := hs.pans p (findPan_some hp).1
  simp [Pan.boostCounts, hboost] at hb

/-- R64: the loss of the remote turns the permit off. -/
theorem State.permitOff_keeps : Keeps s { s with levels := { s.levels with permit := .off } } :=
  .of_table ⟨forall₂_of_eq .refl rfl, .inl rfl, le_rfl⟩ fun hs => by
    obtain ⟨hpause, htimer, -, hoff⟩ := hs.levels
    exact ⟨hs.pans, hs.recalls, hpause, htimer, rfl, hoff⟩

/-! ### The recall list (R52) -/

/-- Where recall entries go and pans, levels and mode stand. -/
theorem Aside.of_recalls {t : State} (hr : t.recalls.Sublist s.recalls) (hp : t.pans = s.pans := by simp)
    (hl : t.levels = s.levels := by simp) (hc : t.ctl = s.ctl := by simp) (hv : t.survey = s.survey := by simp)
    (hx : t.resetting = s.resetting := by simp) : Aside s t where
  pans := forall₂_of_eq .refl hp
  recalls := hr
  levels := hl
  mode := by rw [hc]; exact id
  cooking h := ⟨hc ▸ h.mode, hv ▸ h.survey, hc ▸ h.startTimer, hx ▸ h.resetting⟩

theorem State.recallExpired_aside (d i : Nat) :
    Aside s { s.elapseTo d with recalls := (s.elapseTo d).recalls.eraseIdx i } :=
  (s.elapseTo_aside d).trans (.of_recalls (List.eraseIdx_sublist _ _) rfl rfl rfl rfl rfl)

/-- R52: a changed recall window may expire entries. -/
theorem State.settingsChanged_aside (before : Settings) : Aside s (s.settingsChanged before) := by
  refine .of_recalls ?_
  unfold State.settingsChanged
  dsimp only
  (repeat' split) <;> simp

theorem State.takeWrite_aside (id v : Nat) (range : Nat × Nat) : Aside s (s.takeWrite id v range).state := by
  rw [State.takeWrite_eq]
  exact (State.settingsChanged_aside _).after .of_eq

end

end Sys2Proof.Machine
end

section
/-! PROOFS. All that a command can do to the pan table, the levels and the mode: it keeps them, or leaves ACTIVE, or
enters it, or begins a reset. -/

namespace Sys2Proof.Machine

open Sys2Proof.Safety

section
variable {s : State}

/-! ### Requests and frames taken (R161, R162) -/

theorem Keeps.unlessReset {f : State → State} (h : s.resetting = none → Keeps s (f s)) : Keeps s (s.unlessReset f) :=
  State.unlessReset_keeps (Inv := Keeps s) .refl h

theorem Keeps.expire {f : State → State} {timer : Timer}
    (h : ∀ d, timer = some d → Keeps (s.elapseTo d) (f (s.elapseTo d))) :
    Keeps s (s.expire timer f) :=
  State.expire_keeps (Inv := Keeps s) .refl fun d hd => (s.elapseTo_aside d).keeps.trans (h d hd)

/-- A request keeps what its owner keeps. -/
theorem Keeps.serve {p : Partner} {req : Request} {body : List Byte → State → Served}
    (h : ∀ b u, Keeps u (body b u).state) : Keeps s (s.unlessReset (State.serve p req body)) :=
  .unlessReset fun _ => State.serve_keeps (Inv := Keeps s) .refl (fun rest => (s.dequeue_leaves p rest).keeps)
    (fun b _ hk => hk.trans (h b _)) (fun t k tag bytes hk => hk.trans (t.respond_leaves p k tag bytes).keeps)

theorem Keeps.takePartnerFrame {p : Partner} {want : Byte → Bool} {act : Frame → State → State}
    (h : ∀ f u, Keeps u (act f u)) : Keeps s (s.takePartnerFrame p want act) := by
  obtain hs | ⟨f, rest, -, -, hs⟩ := s.takePartnerFrame_cases p want act
  · rw [hs]; exact .refl
  · have hq : Keeps s (s.dequeue p rest) := (s.dequeue_leaves p rest).keeps
    rw [hs]; split <;> [exact hq; exact hq.trans (h f _)]

theorem Keeps.takeBoardFrame {bd : Board} {kind : Byte} {act : Frame → State → State} (h : ∀ f u, Keeps u (act f u)) :
    Keeps s (s.takeBoardFrame bd kind act) := by
  obtain hs | ⟨f, rest, -, -, -, hs⟩ := s.takeBoardFrame_cases bd kind act
  · rw [hs]; exact .refl
  · rw [hs]; exact (s.modBoardLink_leaves bd _).keeps.trans (h f _)

/-! ### Links (R160, R164) -/

theorem State.endAssembly_aside (l : Link) : Aside s (s.endAssembly l) := .of_eq

theorem State.frameComplete_aside (l : Link) (f : Frame) : Aside s (s.frameComplete l f) := by
  unfold State.frameComplete
  split
  · exact .refl
  · cases l with
    | panel => exact .of_eq
    | remote => exact .of_eq
    | genA => exact s.boardArrival_aside .a f
    | genB => exact s.boardArrival_aside .b f

theorem State.takeByte_aside (l : Link) (byte : Byte) : Aside s (s.takeByte l byte) := by
  unfold State.takeByte State.frameByte State.assemble
  dsimp only
  (repeat' split)
  · exact .of_eq
  · exact .refl
  · exact s.endAssembly_aside l
  · exact (s.endAssembly_aside l).trans (State.frameComplete_aside _ _)
  · exact s.endAssembly_aside l
  · exact .of_eq

/-! ### Generators and boards (R101 to R107) -/

theorem State.stopConfirmed_aside (bd : Board) (named : List Nat) : Aside s (s.stopConfirmed bd named) := .of_eq

theorem State.helloFrame_aside (bd : Board) (f : Frame) : Aside s (s.helloFrame bd f) := by
  unfold State.helloFrame; split <;> [exact State.stopConfirmed_aside _ _; exact .refl]

theorem State.confirmFrame_aside (bd : Board) (f : Frame) : Aside s (s.confirmFrame bd f) := by
  unfold State.confirmFrame; split <;> [exact State.stopConfirmed_aside _ _; exact .refl]

/-! ### The survey requests (R151, R154, R155) -/

theorem State.surveyVerdict_none (h : s.surveyVerdict = none) : s.ctl.mode = .standby := by
  unfold State.surveyVerdict at h
  cases hm : s.ctl.mode <;> simp [hm] at h ⊢

theorem surveyOnly_none {m : Mode} (h : surveyOnly m = none) : m = .survey := by
  cases m <;> simp [surveyOnly] at h ⊢

theorem Aside.of_survey {survey : Survey} (hm : s.ctl.mode = .survey) : Aside s { s with survey := survey } :=
  .of_mode (fun hc => by simp [hc.mode] at hm) id rfl rfl rfl

theorem State.startSurvey_aside (h : s.surveyVerdict = none) : Aside s s.startSurvey :=
  .of_mode (fun hc => by simpa [hc.mode] using State.surveyVerdict_none h) (fun _ => by simp [State.startSurvey]) rfl rfl
    rfl

/-! ### Entering ACTIVE and the resets (R140, R147) -/

/-- R147: what the end of a reset keeps: it goes on in START. -/
theorem State.endReset_aside {r : Resetting} (h : s.resetting = some r) : Aside s (s.endReset r) := by
  unfold State.endReset
  refine (State.freeFrame_aside _).after (.of_mode (fun hc => ?_) (fun _ => ?_))
  · simp [hc.resetting] at h
  · simp [Ctl.afterReset]

/-- All that a command can do to the table, the levels and the mode. -/
inductive Does (s t : State) (left : Nat) : Prop
  | mayLeave (h : MayLeave s t left)
  | enters (mode : t.ctl.mode = .active) (table : TableSound s → TableSound t)
  | resets (r : Resetting) (begins : t = s.toResetValues.withReset r)

theorem Does.keeps {t : State} {left : Nat} (h : Keeps s t) : Does s t left := .mayLeave (.inl h)

theorem Does.aside {t : State} {left : Nat} (h : Aside s t) : Does s t left := .keeps h.keeps

/-! ### The commands that may leave ACTIVE (R142) -/

theorem MayLeave.expiry {timer : State → Timer} {f : State → State} (h : ∀ u : State, MayLeave u (f u) (f u).now) :
    MayLeave s (s.unlessReset fun t => t.expire (timer t) f) (s.unlessReset fun t => t.expire (timer t) f).now :=
  State.unlessReset_keeps (Inv := fun t => MayLeave s t t.now) (.inl .refl) fun _ =>
    State.expire_keeps (Inv := fun t => MayLeave s t t.now) (.inl .refl) fun d _ =>
      (h _).before (s.elapseTo_stands d)

theorem State.leaveForStandby_timed (s : State) : MayLeave s s.leaveForStandby s.leaveForStandby.now := by
  rw [(State.leaveForStandby_frame s).1]; exact s.leaveForStandby_mayLeave

theorem State.partnerExpiry_mayLeave (s : State) (p : Partner) :
    MayLeave s (s.partnerExpiry p) (s.partnerExpiry p).now := by
  have hlost : Stands s ((s.modPartner p PartnerRec.lose).capture .linkLost) :=
    (s.modPartner_leaves p (f := PartnerRec.lose) fun _ => ⟨rfl, rfl⟩).trans (State.capture_leaves _ _)
  unfold State.partnerExpiry State.partnerGone
  split
  · exact .inl (Aside.of_eq).keeps
  · cases p with
    | panel => exact (State.leaveForStandby_timed _).before hlost
    | remote => exact .inl (hlost.keeps.trans State.permitOff_keeps)
  all_goals exact .inl .refl

theorem execDeactivate_mayLeave (p : Partner) : ∃ t, execDeactivate p s = .next t ∧ MayLeave s t t.now := by
  refine ⟨_, rfl, State.unlessReset_keeps (Inv := fun t => MayLeave s t t.now) (.inl .refl) fun _ =>
    State.serve_keeps (Inv := fun t => MayLeave s t t.now) (.inl .refl) (fun rest => ?_) (fun b rest _ => ?_)
      (fun t k tag bytes h => ?_)⟩
  · exact (s.dequeue_leaves p rest).mayLeave
  · split
    · exact (State.leaveForStandby_timed _).before (s.dequeue_leaves p rest)
    all_goals exact (s.dequeue_leaves p rest).mayLeave
  · rw [(State.respond_frame t p k tag bytes).1]
    exact h.andThen (t.respond_leaves p k tag bytes) fun _ => by simp

/-! ### Entering ACTIVE (R140) -/

/-- From `s` to `t` the device enters ACTIVE, or neither enters nor leaves it. -/
def MayEnter (s t : State) : Prop := Keeps s t ∨ (t.ctl.mode = .active ∧ (TableSound s → TableSound t))

theorem State.enterActive_enters (s : State) :
    s.enterActive.ctl.mode = .active ∧ (TableSound s → TableSound s.enterActive) := by
  have htable : TableKept s s.enterActive :=
    ⟨forall₂_of_eq .refl (by simp), .inl (by simp [State.enterActive]), by simp⟩
  exact ⟨by simp [State.enterActive], htable.sound⟩

theorem execActivate_mayEnter (p : Partner) : ∃ t, execActivate p s = .next t ∧ MayEnter s t := by
  refine ⟨_, rfl, State.unlessReset_keeps (Inv := MayEnter s) (.inl .refl) fun _ =>
    State.serve_keeps (Inv := MayEnter s) (.inl .refl) (fun rest => .inl (s.dequeue_leaves p rest).keeps)
      (fun b rest _ => ?_) (fun t k tag bytes h => ?_)⟩
  · have hq := s.dequeue_leaves p rest
    split
    · exact .inl hq.keeps
    · obtain ⟨hm, htable⟩ := (s.dequeue p rest).enterActive_enters
      exact .inr ⟨hm, htable ∘ hq.table.sound⟩
  · have hk := t.respond_leaves p k tag bytes
    rcases h with h | ⟨hm, htable⟩
    · exact .inl (h.trans hk.keeps)
    · exact .inr ⟨by simpa using hm, hk.table.sound ∘ htable⟩

/-! ### Every command -/

theorem State.beginReset_does {left : Nat} (cause : ResetCause) : Does s (s.beginReset cause) left := by
  unfold State.beginReset
  split
  · rename_i r hr
    exact .aside (.of_mode (fun hc => by simp [hc.resetting] at hr) id rfl rfl rfl)
  · exact .resets _ rfl

theorem Does.enters_or {t : State} {left : Nat} (h : MayEnter s t) : Does s t left := by
  rcases h with h | ⟨hm, htable⟩
  · exact .keeps h
  · exact .enters hm htable

end

end Sys2Proof.Machine
end

section
/-! PROOFS. Every command, by what it can do to the pan table, the levels and the mode. -/

namespace Sys2Proof.Machine

open Sys2Proof.Safety

/-- The command with the outcome `x` completes, and keeps the table, the rest outside ACTIVE and ACTIVE. -/
def Kept (s : State) (x : Host.Outcome State Fault Refusal) : Prop := ∃ t, x = .next t ∧ Keeps s t

section
variable {s : State}

theorem Kept.unlessReset {f : State → State} (h : s.resetting = none → Keeps s (f s)) :
    Kept s (.next (s.unlessReset f)) :=
  ⟨_, rfl, .unlessReset h⟩

/-- A timer's expiry keeps what follows it keeps. -/
theorem Kept.expiry {f : State → State} {timer : State → Timer}
    (h : ∀ (u : State) d, timer u = some d → Keeps (u.elapseTo d) (f (u.elapseTo d))) :
    Kept s (.next (s.unlessReset fun t => t.expire (timer t) f)) :=
  .unlessReset fun _ => .expire fun d hd => h s d hd

theorem Kept.expiry_aside {f : State → State} {timer : State → Timer} (h : ∀ u : State, Aside u (f u)) :
    Kept s (.next (s.unlessReset fun t => t.expire (timer t) f)) := .expiry fun _ _ _ => (h _).keeps

/-- A request keeps what its owner keeps. -/
theorem Kept.serve {p : Partner} {req : Request} {body : List Byte → State → Served}
    (h : ∀ b u, Keeps u (body b u).state) : Kept s (.next (s.unlessReset (State.serve p req body))) :=
  ⟨_, rfl, .serve h⟩

/-- A read answers and changes nothing. -/
theorem Kept.read {p : Partner} {req : Request} {body : List Byte → State → Served}
    (h : ∀ b u, (body b u).state = u) : Kept s (.next (s.unlessReset (State.serve p req body))) :=
  .serve fun b u => by rw [h]; exact .refl

variable (s)

theorem State.withStore_keeps (st : Store) : Keeps s { s with store := st } := (Aside.of_eq).keeps

theorem State.modPartner_keeps (p : Partner) (f : PartnerRec → PartnerRec) : Keeps s (s.modPartner p f) :=
  (Aside.of_eq).keeps

variable {s}

/-! ### The resets and the frames -/

theorem execResetEnd_kept : Kept s (execResetEnd s) := by
  refine ⟨_, rfl, ?_⟩
  split
  · exact .refl
  · exact (State.endReset_aside ‹_›).keeps

theorem execFrameArrival_kept (l : Link) (kind tag : Byte) (payload : List Byte) :
    Kept s (execFrameArrival l kind tag payload s) := by
  refine .unlessReset fun _ => ?_
  have hend : Aside s (s.endAssembly l) := s.endAssembly_aside l
  dsimp only
  split
  · exact (hend.trans (State.frameComplete_aside _ _)).keeps
  · exact hend.keeps

theorem execByteReceived_kept (l : Link) (byte : Byte) : Kept s (execByteReceived l byte s) := by
  have hgap : Aside s (if s.gapLapsed l then s.endAssembly l else s) := by
    split
    · exact s.endAssembly_aside l
    · exact .refl
  exact .unlessReset fun _ => (hgap.trans (State.takeByte_aside l byte)).keeps

/-! ### Requests about events and levels -/

theorem execClearEvents_kept (p : Partner) : Kept s (execClearEvents p s) := by
  refine .serve fun b u => ?_
  split
  · exact .refl
  · dsimp only [accept]; exact u.modPartner_keeps p _

theorem execSetEventEnable_kept (p : Partner) : Kept s (execSetEventEnable p s) := by
  refine .serve fun b u => ?_
  split
  · exact .refl
  · dsimp only [accept]; exact u.modPartner_keeps p _

theorem execSetLevel_kept (p : Partner) : Kept s (execSetLevel p s) := by
  refine .serve fun b u => ?_
  split
  · exact .refl
  · exact State.takeLevel_keeps ‹_›

theorem execAllOff_kept (p : Partner) : Kept s (execAllOff p s) := by
  refine .serve fun b u => ?_
  split
  · exact State.takeAllOff_keeps ‹_› p
  · exact .refl

theorem execSetRemotePermit_kept (p : Partner) : Kept s (execSetRemotePermit p s) := by
  refine .serve fun b u => ?_
  (repeat' split)
  · exact .refl
  · exact .refl
  · exact State.withPermit_keeps (activeOnly_none ‹_›) _

theorem execPause_kept (p : Partner) : Kept s (execPause p s) := by
  refine .serve fun b u => ?_
  split
  · exact .refl
  · show Keeps u (if u.levels.pause then u else u.beginPause)
    split
    · exact .refl
    · exact State.beginPause_keeps (activeOnly_none ‹_›)

theorem execResume_kept (p : Partner) : Kept s (execResume p s) := by
  refine .serve fun b u => ?_
  split
  · exact .refl
  · show Keeps u (if u.levels.pause then u.endPause.judgeAutoOff else u)
    split
    · exact State.resume_keeps (activeOnly_none ‹_›)
    · exact .refl

theorem execSoftReset_kept (p : Partner) : Kept s (execSoftReset p s) := by
  refine .unlessReset fun _ => .takePartnerFrame fun f u => ?_
  have htaken : Aside u (u.takeSoftReset p f.tag) := .of_eq
  dsimp only
  split
  · exact htaken.keeps
  · exact (u.respond_leaves _ _ _ _).keeps

/-! ### Requests about the survey and the settings -/

theorem execSurveyStart_kept (p : Partner) : Kept s (execSurveyStart p s) := by
  refine .serve fun b u => ?_
  split
  · exact .refl
  · exact (State.startSurvey_aside ‹_›).keeps

theorem execSurveySuspend_kept (p : Partner) : Kept s (execSurveySuspend p s) := by
  refine .serve fun b u => ?_
  split
  · exact .refl
  · exact (Aside.of_survey (surveyOnly_none ‹_›)).keeps

theorem execSurveyResume_kept (p : Partner) : Kept s (execSurveyResume p s) := by
  refine .serve fun b u => ?_
  (repeat' split)
  · exact .refl
  · exact .refl
  · exact (Aside.of_survey (surveyOnly_none ‹_›)).keeps
  · exact .refl

theorem execSurveyAbort_kept (p : Partner) : Kept s (execSurveyAbort p s) := by
  refine .serve fun b u => ?_
  split
  · exact .refl
  · exact (u.abortSurvey_aside _).keeps

theorem State.takeRow_keeps (row : Nat) (values : List Nat) : Keeps s (s.takeRow row values).state := by
  unfold State.takeRow
  dsimp only
  split <;> exact s.withStore_keeps _

theorem execWriteShowroomRow_kept (p : Partner) : Kept s (execWriteShowroomRow p s) := by
  refine .serve fun b u => ?_
  (repeat' split)
  · exact .refl
  · exact .refl
  · exact .refl
  · exact State.takeRow_keeps _ _

theorem execWriteSetting_kept (p : Partner) : Kept s (execWriteSetting p s) := by
  refine .serve fun b u => ?_
  (repeat' split)
  · exact .refl
  · exact .refl
  · exact .refl
  · exact (State.takeWrite_aside _ _ _).keeps

theorem execWriteLevelTable_kept (p : Partner) : Kept s (execWriteLevelTable p s) := by
  refine .serve fun b u => ?_
  dsimp only
  (repeat' split)
  · exact .refl
  · exact u.withStore_keeps _
  · exact .refl

theorem execStoreSettings_kept (p : Partner) : Kept s (execStoreSettings p s) := by
  refine .serve fun b u => ?_
  split
  · exact .refl
  · exact u.withStore_keeps _

theorem execSetExclusion_kept (p : Partner) : Kept s (execSetExclusion p s) := by
  refine .serve fun b u => ?_
  (repeat' split)
  · exact .refl
  · exact .refl
  · exact .refl
  · exact u.withStore_keeps _

theorem execLockExclusion_kept (p : Partner) : Kept s (execLockExclusion p s) := by
  refine .serve fun b u => ?_
  split
  · exact .refl
  · exact u.withStore_keeps _

theorem execStoreComplete_kept : Kept s (execStoreComplete s) := by
  refine .unlessReset fun _ => ?_
  split
  · exact .refl
  · exact (Aside.of_eq).keeps

/-! ### Expiries -/

theorem execRetryTimerExpiry_kept (g : Fin 8) : Kept s (execRetryTimerExpiry g s) := by
  refine .unlessReset fun _ => ?_
  split
  · rename_i d _
    exact (s.elapseTo_aside d).keeps.trans (Aside.of_eq).keeps
  · exact .refl
  · exact .refl

theorem execRecallExpiry_kept (i : Nat) : Kept s (execRecallExpiry i s) := by
  refine .unlessReset fun _ => ?_
  split
  · exact .refl
  · exact (State.recallExpired_aside _ i).keeps

theorem execBoostExpiry_kept (n : Nat) : Kept s (execBoostExpiry n s) := by
  refine .unlessReset fun _ => ?_
  (repeat' split)
  · exact .refl
  · exact State.boostExpired_keeps ‹_› ‹_› _
  · exact .refl

/-- R8: the free frame's tracking point. -/
theorem State.trackExpired_keeps (s : State) : Keeps s s.trackExpired :=
  (s.modFrame_leaves _).keeps.trans (State.trackingPoint_keeps _)

theorem execEdgeTimerExpiry_mayLeave (ph : Phase) : ∃ t, execEdgeTimerExpiry ph s = .next t ∧ MayLeave s t t.now :=
  ⟨_, rfl, .expiry (timer := fun t => (t.phase ph).edgeTimer) fun u => by
    rw [(State.edgeExpired_frame u ph).1]; exact u.edgeExpired_mayLeave ph⟩

theorem execSoftResetStart_does : ∃ t, execSoftResetStart s = .next t ∧ Does s t t.now := by
  refine ⟨_, rfl, State.unlessReset_keeps (Inv := fun t => Does s t t.now) (.keeps .refl) fun _ => ?_⟩
  split
  · exact s.beginReset_does .softReset
  · exact .keeps .refl

end

/-! ### Every command -/

/-- All that a command can do, and the moment at which it leaves ACTIVE when it does. -/
theorem exec_does (c : Instr) (s : State) : ∃ t, exec c s = .next t ∧ Does s t (leavingMoment s t c) := by
  have keeps : ∀ {x : Host.Outcome State Fault Refusal}, Kept s x →
      ∃ t, x = .next t ∧ Does s t (leavingMoment s t c) := fun ⟨t, hx, hk⟩ => ⟨t, hx, .keeps hk⟩
  have leaves : ∀ {x : Host.Outcome State Fault Refusal}, (∃ t, x = .next t ∧ MayLeave s t (leavingMoment s t c)) →
      ∃ t, x = .next t ∧ Does s t (leavingMoment s t c) := fun ⟨t, hx, h⟩ => ⟨t, hx, .mayLeave h⟩
  cases c with
  | zeroCrossEdge ph wait => exact leaves ⟨_, rfl, execZeroCrossEdge_mayLeave _ ph wait rfl⟩
  | edgeTimerExpiry ph => exact leaves (execEdgeTimerExpiry_mayLeave ph)
  | freeFrameExpiry => exact keeps (.expiry_aside State.freeExpired_aside)
  | trackingTimerExpiry => exact keeps (.expiry fun _ _ _ => State.trackExpired_keeps _)
  | powerOn => exact ⟨_, rfl, s.beginReset_does .powerOn⟩
  | resetLine => exact ⟨_, rfl, s.beginReset_does .resetLine⟩
  | resetEnd => exact keeps execResetEnd_kept
  | softResetStart => exact execSoftResetStart_does
  | frameArrival l kind tag payload => exact keeps (execFrameArrival_kept l kind tag payload)
  | byteGapTimeout l => exact keeps (.expiry_aside fun _ => State.endAssembly_aside l)
  | linkPresenceExpiry p => exact leaves ⟨_, rfl, .expiry fun u => u.partnerExpiry_mayLeave p⟩
  | boardPresenceExpiry bd => exact keeps (.expiry_aside fun u => u.boardExpiry_aside bd)
  | sendFrame p => exact keeps (.unlessReset fun _ => (Aside.of_eq).keeps)
  | unknownKind p =>
    exact keeps (.unlessReset fun _ => .takePartnerFrame fun _ u => (u.respond_leaves _ _ _ _).keeps)
  | hello p => exact keeps (.read fun _ _ => rfl)
  | readStatus p => exact keeps (.read fun _ _ => by (repeat' split) <;> rfl)
  | readPans p => exact keeps (.read fun _ _ => by dsimp only; split <;> rfl)
  | readCoils p => exact keeps (.read fun _ _ => by dsimp only; split <;> rfl)
  | readGenerators p => exact keeps (.read fun _ _ => by (repeat' split) <;> rfl)
  | readEvents p => exact keeps (.read fun _ _ => rfl)
  | clearEvents p => exact keeps (execClearEvents_kept p)
  | setEventEnable p => exact keeps (execSetEventEnable_kept p)
  | readTable p => exact keeps (.read fun _ _ => by dsimp only; (repeat' split) <;> rfl)
  | readSettings p => exact keeps (.read fun _ _ => by (repeat' split) <;> rfl)
  | setLevel p => exact keeps (execSetLevel_kept p)
  | allOff p => exact keeps (execAllOff_kept p)
  | setRemotePermit p => exact keeps (execSetRemotePermit_kept p)
  | pause p => exact keeps (execPause_kept p)
  | resume p => exact keeps (execResume_kept p)
  | activate p =>
    obtain ⟨t, ht, h⟩ := execActivate_mayEnter (s := s) p
    exact ⟨t, ht, .enters_or h⟩
  | deactivate p => exact leaves (execDeactivate_mayLeave p)
  | softReset p => exact keeps (execSoftReset_kept p)
  | surveyStart p => exact keeps (execSurveyStart_kept p)
  | surveySuspend p => exact keeps (execSurveySuspend_kept p)
  | surveyResume p => exact keeps (execSurveyResume_kept p)
  | surveyAbort p => exact keeps (execSurveyAbort_kept p)
  | writeShowroomRow p => exact keeps (execWriteShowroomRow_kept p)
  | writeSetting p => exact keeps (execWriteSetting_kept p)
  | writeLevelTable p => exact keeps (execWriteLevelTable_kept p)
  | storeSettings p => exact keeps (execStoreSettings_kept p)
  | setExclusion p => exact keeps (execSetExclusion_kept p)
  | lockExclusion p => exact keeps (execLockExclusion_kept p)
  | boardHello bd => exact keeps (.unlessReset fun _ => .takeBoardFrame fun f _ => (State.helloFrame_aside bd f).keeps)
  | report bd => exact leaves ⟨_, rfl, execReport_mayLeave rfl⟩
  | stopConfirm bd =>
    exact keeps (.unlessReset fun _ => .takeBoardFrame fun f _ => (State.confirmFrame_aside bd f).keeps)
  | stopTimerExpiry g => exact keeps (.expiry_aside fun _ => .of_eq)
  | lineDownTimerExpiry bd => exact keeps (.expiry_aside fun _ => .of_eq)
  | retryTimerExpiry g => exact keeps (execRetryTimerExpiry_kept g)
  | chainTransferComplete w => exact leaves ⟨_, rfl, execChainTransferComplete_mayLeave rfl⟩
  | settleTimerExpiry => exact keeps (.expiry_aside State.settleExpired_aside)
  | recallExpiry i => exact keeps (execRecallExpiry_kept i)
  | boostExpiry n => exact keeps (execBoostExpiry_kept n)
  | pauseTimerExpiry => exact keeps (.expiry fun u d hd => State.pauseExpired_keeps (by simp [hd]))
  | autoOffExpiry => exact leaves ⟨_, rfl, .expiry State.leaveForStandby_timed⟩
  | startTimerExpiry => exact keeps (.expiry fun u d hd => (State.startExpired_aside _ (by simp [hd])).keeps)
  | suspendTimerExpiry => exact keeps (.expiry_aside fun u => u.abortSurvey_aside _)
  | storeComplete => exact keeps execStoreComplete_kept
  | byteReceived l byte => exact keeps (execByteReceived_kept l byte)

end Sys2Proof.Machine
end

section
/-! PROOFS. The obligations on the leaving of ACTIVE, the rest outside it and the pan table. -/

namespace Sys2Proof.Machine

open Sys2Proof.Safety

/-! ### What a reset begins with (R147) -/

section
variable {s : State}

theorem State.toResetValues_table (r : Resetting) : TableSound (s.toResetValues.withReset r) := by
  refine ⟨.nil, ?_, ?_, .nil, ?_, ?_⟩ <;> simp [State.toResetValues, State.withReset, panNumbers, Levels.initial]

theorem State.toResetValues_rests (r : Resetting) : AtRest (s.toResetValues.withReset r) :=
  ⟨by simp [State.toResetValues, State.withReset], rfl, rfl, rfl, rfl, rfl⟩

/-! ### What every command does -/

theorem Does.table {t : State} {left : Nat} (h : Does s t left) (hs : TableSound s) : TableSound t := by
  cases h with
  | mayLeave h =>
    rcases h with h | h
    · exact h.table hs
    · exact h.table hs
  | enters _ h => exact h hs
  | resets r h => rw [h]; exact State.toResetValues_table r

theorem Does.rests {t : State} {left : Nat} (h : Does s t left) (hm : ModesAgree s) (hs : RestsOutsideActive s) :
    RestsOutsideActive t := by
  rw [restsOutsideActive_iff] at hs ⊢
  intro ht
  cases h with
  | mayLeave h =>
    rcases h with h | h
    · by_cases ha : s.ctl.mode = .active
      · exact absurd (h.cooking (.of_modesAgree hm ha)).mode ht
      · exact (h.rest ⟨hs ha, ha⟩).toAtRest
    · exact h.rests
  | enters ha _ => exact absurd ha ht
  | resets r h => rw [h]; exact State.toResetValues_rests r

/-- Of all that a command can do in ACTIVE, only the leaving ends in STANDBY or HALT. -/
theorem Does.leaves {t : State} {left : Nat} (h : Does s t left) (hs : Cooking s)
    (ht : t.ctl.mode = .standby ∨ t.ctl.mode = .halt) : Leaves s t left := by
  have hactive : t.ctl.mode ≠ .active := by rcases ht with ht | ht <;> simp [ht]
  cases h with
  | mayLeave h => exact h.resolve_left fun hk => hactive (hk.cooking hs).mode
  | enters ha _ => exact absurd ha hactive
  | resets r h => simp [h, State.toResetValues, State.withReset] at ht

end

theorem exec_cases {c : Instr} {s t : State} (h : exec c s = .next t) : Does s t (leavingMoment s t c) := by
  obtain ⟨u, hu, hd⟩ := exec_does c s
  cases hu.symm.trans h
  exact hd

/-! ### The obligations -/

/-- Settles O56: every command keeps the table, and the passing of time does. -/
theorem panTableStaysSound : Obligations.PanTableStaysSound := fun _ _ hs h =>
  step_keeps (Inv := TableSound) (fun _ _ hs => hs) (fun _ _ _ hs hx => (exec_cases hx).table hs)
    (fun s => (s.elapse_aside 1).table.sound) hs h

/-- Settles O55: outside ACTIVE no command raises a level, and a command that leaves ACTIVE leaves every level at 0. -/
theorem levelsRestOutsideActive : Obligations.LevelsRestOutsideActive := by
  intro s t hm hs h
  obtain ⟨c, rest, -, hx⟩ | ⟨c, -, -, hx⟩ | ⟨-, -, rfl⟩ := step_cases h
  · exact (exec_cases hx).rests hm hs
  · exact (exec_cases hx).rests hm hs
  · have hd : Does s (s.elapse 1) 0 := .aside (s.elapse_aside 1)
    exact hd.rests hm hs

/-- Settles O47: in ACTIVE a command that ends in STANDBY or HALT has taken the leaving, which has every effect. -/
theorem leavingActiveHasEveryEffect : Obligations.LeavingActiveHasEveryEffect := fun _ _ _ hm ha hx ht =>
  ((exec_cases hx).leaves (.of_modesAgree hm ha) ht).shows

end Sys2Proof.Machine
end

section
/-! PROOFS. The requests that their owners answer without doing anything more: what the modes, a store in flight and the
tables of each request refuse, and what finds nothing to do (R59, R62, R63, R140, R141, R146). -/

namespace Sys2Proof.Machine

open Sys2Proof.Safety

/-! ### What a command does once its request or its timer is ready -/

section
variable {s : State} {p : Partner} {f : Frame} {rest : List Frame} {req : Request} {r : Reply}

/-- A request that is ready reaches the body of its owner. -/
theorem exec_of_serve {c : Instr} {body : List Byte → State → Served} (h : ReadyFor s p req f rest)
    (hc : ∀ t, exec c t = .next (t.unlessReset (State.serve p req body))) : exec c s = .next (s.serve p req body) := by
  rw [hc, State.unlessReset_none _ h.1.1]

/-- A request whose owner refuses it, or takes it with no effect, is answered so. -/
theorem exec_of_refuse {c : Instr} {body : List Byte → State → Served} (h : ReadyFor s p req f rest)
    (hc : ∀ t, exec c t = .next (t.unlessReset (State.serve p req body)))
    (hb : body f.payload (s.dequeue p rest) = refuse r (s.dequeue p rest)) :
    exec c s = .next (answered s p f rest r []) := by
  rw [exec_of_serve h hc, State.serve_answered h hb]

/-- The end of a timer's time, outside a reset. -/
theorem exec_of_expiry {c : Instr} {timer : State → Timer} {g : State → State} {d : Nat} (hr : s.resetting = none)
    (hd : timer s = some d) (hc : ∀ t, exec c t = .next (t.unlessReset fun u => u.expire (timer u) g)) :
    exec c s = .next (g (s.elapseTo d)) := by
  rw [hc, State.unlessReset_none _ hr, hd, State.expire_some]

end

/-! ### The verdict on a request -/

/-- The outcome with which the owner of a request answers it and leaves everything as it is: where the mode, a store in
flight or the operands refuse it, and where it finds nothing to do. None where the owner goes on: to the request's
effect, or for the requests of no mode to their data. -/
def State.verdict (s : State) (p : Partner) (b : List Byte) : Request → Option Reply
  | .clearEvents | .setEventEnable => if s.ctl.mode = .halt then some .wrongMode else none
  | .setLevel => s.levelVerdict p (byteAt b 0) (byteAt b 1)
  | .allOff => if s.ctl.mode = .active then none else some .accepted
  | .setRemotePermit =>
    (activeOnly s.ctl.mode).or (if (permitOf (byteAt b 0)).isSome then none else some .outOfRange)
  | .pause => (activeOnly s.ctl.mode).or (if s.levels.pause then some .accepted else none)
  | .resume => (activeOnly s.ctl.mode).or (if s.levels.pause then none else some .accepted)
  | .activate => s.activateVerdict
  | .deactivate => if s.ctl.mode = .standby then some .accepted else activeOnly s.ctl.mode
  | .surveyStart => s.surveyVerdict
  | .surveySuspend | .surveyResume | .surveyAbort => surveyOnly s.ctl.mode
  | .writeShowroomRow =>
    if s.ctl.mode = .start then some .notReady else if s.ctl.mode = .halt then some .wrongMode else none
  | .writeSetting | .writeLevelTable | .setExclusion | .lockExclusion => s.writeVerdict
  | .storeSettings => s.storeVerdict
  | .hello | .readStatus | .readPans | .readCoils | .readGenerators | .readEvents | .readTable | .readSettings
  | .softReset => none

section
variable {s : State} {p : Partner} {f : Frame} {rest : List Frame} {req : Request} {r : Reply}

/-- No verdict looks at the input queues. -/
theorem State.verdict_dequeue (s : State) (p q : Partner) (rest : List Frame) (b : List Byte) (req : Request) :
    (s.dequeue q rest).verdict p b req = s.verdict p b req := by cases q <;> cases req <;> rfl

/-- R162: the verdict on a request is its answer, and nothing but the links changes. -/
theorem exec_of_verdict (h : ReadyFor s p req f rest) (hv : s.verdict p f.payload req = some r) :
    exec (commandOf req p) s = .next (answered s p f rest r []) := by
  rw [← s.verdict_dequeue p p rest] at hv
  cases req <;> simp only [State.verdict, reduceCtorEq] at hv
  case clearEvents | setEventEnable =>
    refine exec_of_refuse h (fun _ => rfl) ?_
    split at hv <;> cases hv
    exact if_pos ‹_›
  case setLevel | activate | surveyStart | surveySuspend | surveyResume | surveyAbort | writeSetting | writeLevelTable
      | storeSettings | setExclusion | lockExclusion =>
    refine exec_of_refuse h (fun _ => rfl) ?_
    rw [hv]
  case allOff =>
    refine exec_of_refuse h (fun _ => rfl) ?_
    split at hv <;> cases hv
    exact if_neg ‹_›
  case setRemotePermit =>
    refine exec_of_refuse h (fun _ => rfl) ?_
    cases hm : activeOnly (s.dequeue p rest).ctl.mode with
    | some q => rw [hm] at hv; cases hv; rfl
    | none =>
      rw [hm] at hv
      cases hp : permitOf (byteAt f.payload 0) <;> rw [hp] at hv <;> cases hv
      rfl
  case pause | resume =>
    refine exec_of_refuse h (fun _ => rfl) ?_
    cases hm : activeOnly (s.dequeue p rest).ctl.mode with
    | some q => rw [hm] at hv; cases hv; rfl
    | none =>
      rw [hm] at hv
      cases hp : (s.dequeue p rest).levels.pause <;> rw [hp] at hv <;> cases hv
      rfl
  case deactivate =>
    refine exec_of_refuse h (fun _ => rfl) ?_
    cases hm : (s.dequeue p rest).ctl.mode <;> rw [hm] at hv <;> cases hv <;> rfl
  case writeShowroomRow =>
    refine exec_of_refuse h (fun _ => rfl) ?_
    (repeat' split at hv) <;> cases hv
    · exact if_pos ‹_›
    · exact (if_neg ‹_›).trans (if_pos ‹_›)

/-! ### The verdicts of the modes (R138, R146, R151, R154, R155, R175 to R178) -/

/-- R146: HALT refuses all but the reads, Hello, All Off and Soft Reset. -/
theorem State.verdict_halt (hm : s.ctl.mode = .halt)
    (hreq : req ∉ [Request.hello, .readStatus, .readPans, .readCoils, .readGenerators, .readEvents, .readTable,
      .readSettings, .allOff, .softReset]) (b : List Byte) : s.verdict p b req = some .wrongMode := by
  revert hreq
  cases req <;> simp [State.verdict, State.levelVerdict, State.activateVerdict, State.surveyVerdict, State.writeVerdict,
    State.storeVerdict, activeOnly, surveyOnly, hm]

/-- R138: START refuses what changes something. -/
theorem State.verdict_start (hm : s.ctl.mode = .start) (hs : s.store.storing = none)
    (hreq : req ∈ [Request.setLevel, .setRemotePermit, .pause, .resume, .activate, .deactivate, .surveyStart,
      .surveySuspend, .surveyResume, .surveyAbort, .writeShowroomRow, .writeSetting, .writeLevelTable, .setExclusion,
      .lockExclusion]) (b : List Byte) : s.verdict p b req = some .notReady := by
  revert hreq
  cases req <;> simp [State.verdict, State.levelVerdict, State.activateVerdict, State.surveyVerdict, State.writeVerdict,
    activeOnly, surveyOnly, hm, hs]

/-- R140, R151, R175, R177: a survey or a store in flight makes the settings and the mode busy. -/
theorem State.verdict_busy (hm : s.ctl.mode ≠ .halt) (hs : s.ctl.mode = .survey ∨ s.store.storing.isSome = true)
    (hreq : req ∈ [Request.activate, .surveyStart, .writeSetting, .writeLevelTable, .storeSettings, .setExclusion,
      .lockExclusion]) (b : List Byte) : s.verdict p b req = some .busy := by
  have hall : s.activateVerdict = some .busy ∧ s.surveyVerdict = some .busy ∧ s.writeVerdict = some .busy ∧
      s.storeVerdict = some .busy := by
    unfold State.activateVerdict State.surveyVerdict State.writeVerdict State.storeVerdict
    cases hmode : s.ctl.mode <;> simp_all
  obtain ⟨hactivate, hsurvey, hwrite, hstore⟩ := hall
  revert hreq
  cases req <;> simp [State.verdict, hactivate, hsurvey, hwrite, hstore]

/-- R154, R155: outside SURVEY there is no survey to suspend, resume or abort. -/
theorem State.verdict_surveyOnly (hm : s.ctl.mode = .standby ∨ s.ctl.mode = .active)
    (hreq : req ∈ [Request.surveySuspend, .surveyResume, .surveyAbort]) (b : List Byte) :
    s.verdict p b req = some .wrongMode := by
  revert hreq
  rcases hm with hm | hm <;> cases req <;> simp [State.verdict, surveyOnly, hm]

/-- R59, R63, R70, R71, R141: in STANDBY and SURVEY there is nothing to pause, and no level to set. -/
theorem State.verdict_activeOnly (hm : s.ctl.mode = .standby ∨ s.ctl.mode = .survey)
    (hreq : req ∈ [Request.setLevel, .setRemotePermit, .pause, .resume]) (b : List Byte) :
    s.verdict p b req = some .wrongMode := by
  have hactive : activeOnly s.ctl.mode = some .wrongMode := by rcases hm with hm | hm <;> rw [hm] <;> rfl
  revert hreq
  cases req <;> simp [State.verdict, State.levelVerdict, hactive]

/-- R177: START and ACTIVE store nothing. -/
theorem State.verdict_storeSettings (hm : s.ctl.mode = .start ∨ s.ctl.mode = .active) (hs : s.store.storing = none)
    (b : List Byte) : s.verdict p b .storeSettings = some .wrongMode := by
  rcases hm with hm | hm <;> simp [State.verdict, State.storeVerdict, hm, hs]

end

/-- Settles O36: each clause names verdicts. -/
theorem modesRefuseRequests : Obligations.ModesRefuseRequests := by
  intro s p f rest req h
  refine ⟨fun hm hreq => ?_, fun hm hs hreq => ?_, fun hm hs hreq => ?_, fun hm hs hreq => ?_, fun hm hreq => ?_,
    fun hm hreq => ?_, fun hm hs hreq => ?_⟩ <;> apply exec_of_verdict h
  · exact State.verdict_halt hm hreq _
  · exact State.verdict_start hm hs hreq _
  · rw [hreq]; exact State.verdict_storeSettings (.inl hm) hs _
  · exact State.verdict_busy hm hs hreq _
  · exact State.verdict_surveyOnly hm hreq _
  · exact State.verdict_activeOnly hm (List.mem_append_right [_, _] hreq) _
  · rw [hreq]; exact State.verdict_storeSettings (.inr hm) hs _

end Sys2Proof.Machine
end

section
/-! PROOFS. Set Level (R59 to R62, R67, R72): which one is taken, what it is refused with, and what the remote can reach
with it and with every other request. -/

namespace Sys2Proof.Machine

open Sys2Proof.Safety

/-! ### Which Set Level is taken (R59, R62) -/

/-- R62, Table 4-4: the permit lets a remote Set Level through. -/
theorem permitRefuses_false_iff {permit : Permit} {held asked : Nat} :
    permitRefuses permit held asked = false ↔
      asked ≠ 14 ∧ permit ≠ .off ∧ (permit = .reduceOnly → asked ≤ held) ∧
        (permit = .adjust → held = 0 → asked = 0) := by
  cases permit <;> simp [permitRefuses]

/-- R62, Table 4-4: the permit refuses a remote Set Level. -/
theorem permitRefuses_iff {permit : Permit} {held asked : Nat} :
    permitRefuses permit held asked = true ↔
      asked = 14 ∨ permit = .off ∨ (permit = .reduceOnly ∧ held < asked) ∨
        (permit = .adjust ∧ held = 0 ∧ 0 < asked) := by
  cases permit <;> simp [permitRefuses]

section
variable {s : State} {p : Partner} {n l : Nat} {q : Pan}

theorem State.levelVerdict_high (hm : s.ctl.mode = .active) (hl : 14 < l) :
    s.levelVerdict p n l = some .outOfRange := by simp [State.levelVerdict, activeOnly, hm, hl]

theorem State.levelVerdict_noPan (hm : s.ctl.mode = .active) (hl : l ≤ 14) (hq : findPan s.pans n = none) :
    s.levelVerdict p n l = some .noSuchPan := by simp [State.levelVerdict, activeOnly, hm, hq, Nat.not_lt.2 hl]

theorem State.levelVerdict_pan (hm : s.ctl.mode = .active) (hl : l ≤ 14) (hq : findPan s.pans n = some q) :
    s.levelVerdict p n l =
      if q.state = .forming then some .notReady
      else if p = .remote && permitRefuses s.levels.permit q.level l then some .notPermitted else none := by
  simp [State.levelVerdict, activeOnly, hm, hq, Nat.not_lt.2 hl]

/-- R59: a Set Level is taken for a pan of the table, and from the remote only as far as the permit goes. -/
theorem State.levelVerdict_taken (h : s.levelVerdict p n l = none) :
    ∃ q, findPan s.pans n = some q ∧ (p = .remote → permitRefuses s.levels.permit q.level l = false) := by
  have hm := (State.levelVerdict_none h).1
  by_cases hl : 14 < l
  · simp [State.levelVerdict_high hm hl] at h
  · cases hq : findPan s.pans n with
    | none => simp [State.levelVerdict_noPan hm (Nat.not_lt.1 hl) hq] at h
    | some q =>
      rw [State.levelVerdict_pan hm (Nat.not_lt.1 hl) hq] at h
      split at h
      · cases h
      · split at h
        · cases h
        · rename_i hpermit; exact ⟨q, rfl, fun hp => by simpa [hp] using hpermit⟩

end

/-! ### A Set Level taken (R60, R61, R67, R72) -/

/-- R60 step 4, R61: the state that goes with a pan's new level. -/
theorem levelState_eq (level : Nat) (st : PanState) :
    levelState level st =
      if st = .placed ∧ 0 < level then .heating else if st = .heating ∧ level = 0 then .placed else st := by
  cases st <;> simp [levelState]

theorem State.takeLevel_eq (s : State) (p : Partner) (n l : Nat) :
    s.takeLevel p n l =
      let pans := s.pans.map (fun x =>
        if x.number = n then x.setLevel s.store.settings.boostDuration l (partnerSource p) else x)
      { s with
        pans := pans
        levels := { s.levels with
          demand := toFront n s.levels.demand, autoOff := autoOffWith s pans s.levels.pause } } := by
  rw [State.takeLevel, State.judgeAutoOff_eq]; rfl

section
variable {s : State} {p : Partner} {f : Frame} {rest : List Frame} {n l : Nat}

theorem exec_setLevel_taken (h : ReadyFor s p .setLevel f rest) (hn : n = byteAt f.payload 0)
    (hl : l = byteAt f.payload 1) (hv : s.levelVerdict p n l = none) {pans : List Pan}
    (hpans : pans = s.pans.map (fun x =>
      if x.number = n then x.setLevel s.store.settings.boostDuration l (partnerSource p) else x)) :
    exec (.setLevel p) s = .next { s with
      pans := pans
      levels := { s.levels with
        demand := toFront n s.levels.demand, autoOff := autoOffWith s pans s.levels.pause }
      links := linksAfter s p rest [] (responseTo f .accepted []) } := by
  subst hn hl hpans
  have hverdict : (s.dequeue p rest).levelVerdict p (byteAt f.payload 0) (byteAt f.payload 1) = none :=
    (s.verdict_dequeue p p rest f.payload .setLevel).trans hv
  rw [exec_of_serve h fun _ => rfl, State.serve_taken h (es := []) (r := .accepted) (data := [])
    (u := (s.dequeue p rest).takeLevel p (byteAt f.payload 0) (byteAt f.payload 1))]
  · rw [State.takeLevel_eq]; cases p <;> rfl
  · rw [hverdict]; rfl
  · rw [State.takeLevel_eq]; rfl

end

/-- Settles O39. -/
theorem setLevelIsTaken : Obligations.SetLevelIsTaken := by
  intro s p f rest n l q h hm hn hl hl14 hq hforming hpermit pans hpans
  have hv : s.levelVerdict p n l = none := by
    rw [State.levelVerdict_pan hm hl14 hq, if_neg hforming, if_neg]
    simpa using fun hp => permitRefuses_false_iff.2 (hpermit hp)
  refine exec_setLevel_taken h hn hl hv (hpans.trans (List.map_congr_left fun x _ => ?_))
  rw [Pan.setLevel, levelState_eq]
  cases p <;> rfl

/-- Settles O40: each clause is one condition of Tables 4-3 and 4-4. -/
theorem setLevelIsRefused : Obligations.SetLevelIsRefused := by
  rintro s p f rest n l h rfl rfl
  refine ⟨fun hm => ?_, fun hm hl => ?_, fun hm hl hq => ?_, fun q hm hl hq hforming => ?_,
    fun q hm hl hq hforming hp hpermit => ?_⟩ <;> apply exec_of_verdict (req := .setLevel) h
  · exact State.verdict_activeOnly hm (by simp) _
  · exact State.levelVerdict_high hm hl
  · exact State.levelVerdict_noPan hm hl hq
  · exact (State.levelVerdict_pan hm hl hq).trans (if_pos hforming)
  · refine (State.levelVerdict_pan hm hl hq).trans ((if_neg hforming).trans (if_pos ?_))
    simpa [hp] using permitRefuses_iff.2 hpermit

/-! ### What the remote can reach (R62) -/

/-- R62: a pan of `t` was in `s` under its number; it was not raised from level 0 and not set to level 14. -/
def Unraised (s t : State) : Prop :=
  ∀ p' ∈ t.pans, ∃ p ∈ s.pans, p.number = p'.number ∧ (p.level = 0 → p'.level = 0) ∧ (p'.level = 14 → p.level = 14)

theorem Unraised.of_pans {s t : State} (h : t.pans = s.pans := by simp) : Unraised s t :=
  fun p' hp' => ⟨p', h ▸ hp', rfl, id, id⟩

theorem Unraised.of_map {s t : State} {g : Pan → Pan} (h : t.pans = s.pans.map g)
    (hg : ∀ p ∈ s.pans, (g p).number = p.number ∧ (p.level = 0 → (g p).level = 0) ∧
      ((g p).level = 14 → p.level = 14)) : Unraised s t := by
  intro p' hp'
  obtain ⟨p, hp, rfl⟩ := List.mem_map.1 (h ▸ hp')
  obtain ⟨hnumber, hlevel⟩ := hg p hp
  exact ⟨p, hp, hnumber.symm, hlevel⟩

section
variable {s t : State}

theorem Unraised.of_source {u : State} (h : Unraised u t) (hu : u.pans = s.pans) : Unraised s t := by
  unfold Unraised; rwa [← hu]

/-- Producing a response touches no pan. -/
theorem Unraised.respond (h : Unraised s t) (p : Partner) (k : Nat) (tag : Byte) (bytes : List Byte) :
    Unraised s (t.respond p k tag bytes) := by
  unfold Unraised; rwa [show (t.respond p k tag bytes).pans = t.pans by simp]

/-- R62: a taken Set Level of the remote moves one pan, the one that was judged. -/
theorem State.takeLevel_unraised {n l : Nat} (hd : (panNumbers s).Pairwise (· < ·))
    (hv : s.levelVerdict .remote n l = none) : Unraised s (s.takeLevel .remote n l) := by
  obtain ⟨q, hq, hpermit⟩ := State.levelVerdict_taken hv
  obtain ⟨hboost, hoff, hreduce, hadjust⟩ := permitRefuses_false_iff.1 (hpermit rfl)
  have hzero : q.level = 0 → l = 0 := fun h0 => by
    cases hp : s.levels.permit with
    | off => exact absurd hp hoff
    | reduceOnly => exact Nat.le_zero.1 (h0 ▸ hreduce hp)
    | adjust => exact hadjust hp h0
  rw [State.takeLevel_eq]
  refine .of_map rfl fun p hp => ?_
  split
  · obtain ⟨hmem, hnumber⟩ := findPan_some hq
    obtain rfl : p = q := List.inj_on_of_nodup_map (hd.imp Nat.ne_of_lt) hp hmem (by simp [*])
    exact ⟨rfl, hzero, fun h => absurd h hboost⟩
  · exact ⟨rfl, id, id⟩

theorem State.takeAllOff_unraised (p : Partner) : Unraised s (s.takeAllOff p) := by
  refine .of_map (g := fun q => { q.switchOff with source := partnerSource p }) ?_
    fun q _ => ⟨rfl, fun _ => rfl, fun h => by simp [Pan.switchOff] at h⟩
  unfold State.takeAllOff State.endPause
  dsimp only
  split <;> simp

/-- A request raises no pan that its owner does not raise. -/
theorem Unraised.serve {req : Request} {body : List Byte → State → Served}
    (h : ∀ b (u : State), u.pans = s.pans → Unraised u (body b u).state) :
    Unraised s (s.unlessReset (State.serve .remote req body)) :=
  State.unlessReset_keeps (Inv := Unraised s) .of_pans fun _ => State.serve_keeps (Inv := Unraised s) .of_pans
    (fun _ => .of_pans) (fun b _ _ => (h b _ (by simp)).of_source (by simp))
    (fun _ k tag bytes hk => hk.respond _ k tag bytes)

theorem Unraised.takePartnerFrame {want : Byte → Bool} {act : Frame → State → State}
    (h : ∀ f u, (act f u).pans = u.pans) :
    Unraised s (s.unlessReset (State.takePartnerFrame .remote want act)) := by
  refine State.unlessReset_keeps (Inv := Unraised s) .of_pans fun _ => ?_
  obtain hs | ⟨f, rest, -, -, hs⟩ := s.takePartnerFrame_cases .remote want act
  · rw [hs]; exact .of_pans
  · rw [hs]
    split
    · exact .of_pans
    · exact .of_pans (by rw [h]; simp)

/-- R162: what the remote may not request reaches no owner. -/
theorem Unraised.notPermitted {req : Request} (hreq : requestFromRemote req = false)
    {body : List Byte → State → Served} : Unraised s (s.unlessReset (State.serve .remote req body)) :=
  .takePartnerFrame fun f u => by simp [judgeRequest, hreq, refuse]

theorem exec_remote_unraised (hd : (panNumbers s).Pairwise (· < ·)) {req : Request}
    (h : exec (commandOf req .remote) s = .next t) : Unraised s t := by
  cases req
  case setLevel =>
    cases h
    refine .serve fun b u hu => ?_
    split
    · exact .of_pans rfl
    · exact State.takeLevel_unraised (by rwa [panNumbers, hu]) ‹_›
  case allOff =>
    cases h
    refine .serve fun b u _ => ?_
    split
    · exact State.takeAllOff_unraised _
    · exact .of_pans rfl
  case softReset =>
    cases h
    exact .takePartnerFrame fun f u => by dsimp only; split <;> simp
  case hello | readStatus | readGenerators | readEvents | clearEvents | setEventEnable =>
    cases h
    refine .serve fun b u _ => ?_
    (repeat' split) <;> exact .of_pans rfl
  case readPans | readCoils | readTable =>
    cases h
    refine .serve fun b u _ => ?_
    dsimp only
    (repeat' split) <;> exact .of_pans rfl
  all_goals
    cases h
    exact .notPermitted rfl

end

/-- Settles O41. -/
theorem remoteNeverStartsOrBoosts : Obligations.RemoteNeverStartsOrBoosts := fun _ _ _ h hd =>
  exec_remote_unraised hd h

end Sys2Proof.Machine
end

section
/-! PROOFS. All Off, Set Remote Permit and the pause (R63, R66, R70 to R72): what each leaves, whole. -/

namespace Sys2Proof.Machine

open Sys2Proof.Safety

/-! ### The verdicts in ACTIVE (R63, R70, R71) -/

theorem permitOf_code {v : Nat} (h : v ≤ 2) : ∃ permit, permitOf v = some permit ∧ permit.code = v := by
  obtain rfl | rfl | rfl : v = 0 ∨ v = 1 ∨ v = 2 := by omega
  · exact ⟨.off, rfl, rfl⟩
  · exact ⟨.reduceOnly, rfl, rfl⟩
  · exact ⟨.adjust, rfl, rfl⟩

theorem permitOf_none {v : Nat} (h : 2 < v) : permitOf v = none := by
  rw [permitOf, if_neg (by omega), if_neg (by omega), if_neg (by omega)]

section
variable {s : State} {p : Partner} (hm : s.ctl.mode = .active)
include hm

theorem State.verdict_permit_high {b : List Byte} (h : 2 < byteAt b 0) :
    s.verdict p b .setRemotePermit = some .outOfRange := by
  simp [State.verdict, activeOnly, hm, permitOf_none h]

theorem State.verdict_pause_again (h : s.levels.pause = true) (b : List Byte) :
    s.verdict p b .pause = some .accepted := by simp [State.verdict, activeOnly, hm, h]

theorem State.verdict_resume_again (h : s.levels.pause = false) (b : List Byte) :
    s.verdict p b .resume = some .accepted := by simp [State.verdict, activeOnly, hm, h]

/-- R59: the mode test that most requests begin with, in ACTIVE. -/
theorem activeOnly_dequeue {rest : List Frame} : activeOnly (s.dequeue p rest).ctl.mode = none := by
  rw [show (s.dequeue p rest).ctl = s.ctl by simp, hm]; rfl

end

/-! ### What the Level Unit does (R66, R70, R71) -/

section
variable (s : State)

theorem State.takeAllOff_eq (p : Partner) :
    s.takeAllOff p =
      let pans := s.pans.map (fun q => { panOff q with source := partnerSource p })
      { s with
        pans := pans
        levels := { s.levels with
          pause := false, pauseTimer := if s.levels.pause then none else s.levels.pauseTimer
          autoOff := autoOffWith s pans false }
        links := linksWith s (if s.levels.pause then [.modeChanged] else []) } := by
  rw [State.takeAllOff, State.judgeAutoOff_eq]
  cases hp : s.levels.pause <;> simp only [State.mapPans, hp, if_true, if_false, Bool.false_eq_true] <;> rfl

theorem State.beginPause_eq :
    s.beginPause = { s with
      levels := { s.levels with
        pause := true, pauseTimer := some (s.now + s.store.settings.pauseLimit * sec), autoOff := none }
      links := linksWith s [.modeChanged] } := by
  rw [State.beginPause, State.judgeAutoOff_eq, autoOffWith, if_neg (by simp)]; rfl

theorem State.endPause_judged :
    s.endPause.judgeAutoOff = { s with
      levels := { s.levels with pause := false, pauseTimer := none, autoOff := autoOffWith s s.pans false }
      links := linksWith s [.modeChanged] } := by
  rw [State.judgeAutoOff_eq]; rfl

theorem State.pauseExpired_eq :
    s.pauseExpired = { s with
      pans := s.pans.map panOff
      levels := { s.levels with
        pause := false, pauseTimer := none, autoOff := autoOffWith s (s.pans.map panOff) false }
      links := linksWith s [.modeChanged] } := by
  rw [State.pauseExpired, State.endPause_judged]; rfl

end

/-! ### The requests and the pause timer -/

section
variable {s : State} {p : Partner} {f : Frame} {rest : List Frame}

theorem exec_allOff_active (h : ReadyFor s p .allOff f rest) (hm : s.ctl.mode = .active) {pans : List Pan}
    (hpans : pans = s.pans.map (fun q => { panOff q with source := partnerSource p })) :
    exec (.allOff p) s = .next { s with
      pans := pans
      levels := { s.levels with
        pause := false, pauseTimer := if s.levels.pause then none else s.levels.pauseTimer
        autoOff := autoOffWith s pans false }
      links := linksAfter s p rest (if s.levels.pause then [.modeChanged] else []) (responseTo f .accepted []) } := by
  rw [exec_of_serve h fun _ => rfl, State.serve_taken h (r := .accepted) (data := [])
    (u := (s.dequeue p rest).takeAllOff p) (es := if s.levels.pause then [.modeChanged] else [])]
  · rw [State.takeAllOff_eq, hpans]; cases p <;> rfl
  · exact if_pos (by simpa using hm)
  · rw [State.takeAllOff_eq]; simp

theorem exec_setRemotePermit_taken (h : ReadyFor s p .setRemotePermit f rest) (hm : s.ctl.mode = .active)
    {permit : Permit} (hv : permitOf (byteAt f.payload 0) = some permit) :
    exec (.setRemotePermit p) s = .next { answered s p f rest .accepted [] with
      levels := { s.levels with permit := permit } } := by
  rw [exec_of_serve h fun _ => rfl, State.serve_taken h (es := []) (r := .accepted) (data := [])
    (u := { s.dequeue p rest with levels := { s.levels with permit := permit } })]
  · cases p <;> rfl
  · rw [activeOnly_dequeue hm, hv]; cases p <;> rfl
  · rfl

theorem exec_pause_begins (h : ReadyFor s p .pause f rest) (hm : s.ctl.mode = .active) (hp : s.levels.pause = false) :
    exec (.pause p) s = .next { s with
      levels := { s.levels with
        pause := true, pauseTimer := some (s.now + s.store.settings.pauseLimit * sec), autoOff := none }
      links := linksAfter s p rest [.modeChanged] (responseTo f .accepted []) } := by
  rw [exec_of_serve h fun _ => rfl, State.serve_taken h (es := [.modeChanged]) (r := .accepted) (data := [])
    (u := (s.dequeue p rest).beginPause)]
  · rw [State.beginPause_eq]; cases p <;> rfl
  · rw [activeOnly_dequeue hm]; simp [accept, hp]
  · rw [State.beginPause_eq]

theorem exec_resume_ends (h : ReadyFor s p .resume f rest) (hm : s.ctl.mode = .active) (hp : s.levels.pause = true) :
    exec (.resume p) s = .next { s with
      levels := { s.levels with pause := false, pauseTimer := none, autoOff := autoOffWith s s.pans false }
      links := linksAfter s p rest [.modeChanged] (responseTo f .accepted []) } := by
  rw [exec_of_serve h fun _ => rfl, State.serve_taken h (es := [.modeChanged]) (r := .accepted) (data := [])
    (u := (s.dequeue p rest).endPause.judgeAutoOff)]
  · rw [State.endPause_judged]; cases p <;> rfl
  · rw [activeOnly_dequeue hm]; simp [accept, hp]
  · rw [State.endPause_judged]

end

/-- Settles O42. -/
theorem allOffAndRemotePermit : Obligations.AllOffAndRemotePermit := by
  intro s p f rest
  refine ⟨fun h hm => ?_, fun h hm pans hpans => ?_, fun h hm hb => ?_, fun h hm hb => ?_, fun h hm => ?_⟩
  · exact exec_of_verdict (req := .allOff) h (if_neg hm)
  · exact exec_allOff_active h hm (hpans.trans (by cases p <;> rfl))
  · obtain ⟨permit, hpermit, hcode⟩ := permitOf_code hb
    exact ⟨permit, hcode, exec_setRemotePermit_taken h hm hpermit⟩
  · exact exec_of_verdict (req := .setRemotePermit) h (State.verdict_permit_high hm hb)
  · exact exec_of_verdict (req := .setRemotePermit) h (State.verdict_activeOnly hm (by simp) _)

/-- Settles O43. -/
theorem pausesBeginAndEnd : Obligations.PausesBeginAndEnd := by
  intro s p f rest hm
  refine ⟨fun h => ⟨fun hp => ?_, fun hp => ?_⟩, fun h => ⟨fun hp => ?_, fun hp => ?_⟩, fun d hr hd => ?_⟩
  · exact exec_pause_begins h hm hp
  · exact exec_of_verdict (req := .pause) h (State.verdict_pause_again hm hp _)
  · exact exec_resume_ends h hm hp
  · exact exec_of_verdict (req := .resume) h (State.verdict_resume_again hm hp _)
  · rw [exec_of_expiry hr hd fun _ => rfl, State.pauseExpired_eq]; rfl

end Sys2Proof.Machine
end

section
/-! PROOFS. Activate, Deactivate and the auto-off timer (R72, R105, R140 to R143). -/

namespace Sys2Proof.Machine

open Sys2Proof.Safety

/-! ### Activate (R140, Table 8-3) -/

section
variable {s : State} {p : Partner} {f : Frame} {rest : List Frame} (hm : s.ctl.mode = .standby)
  (hs : s.store.storing = none)

section
include hm hs

theorem State.activateVerdict_notReady
    (h : s.links.panel.link.state ≠ .present ∨ s.mains.l1.sync ≠ .valid ∨
      (s.store.settings.showroom = false ∧ s.boardLink .a ≠ .present ∧ s.boardLink .b ≠ .present)) :
    s.activateVerdict = some .notReady := by
  simp only [State.activateVerdict, hm, hs, Option.isSome_none, Bool.false_eq_true, if_false]
  split
  · rfl
  · split
    · rfl
    · rw [if_pos]
      simpa [*, and_assoc] using h

theorem State.activateVerdict_taken (hpanel : s.links.panel.link.state = .present) (hl1 : s.mains.l1.sync = .valid)
    (h : s.store.settings.showroom = true ∨ s.boardLink .a = .present ∨ s.boardLink .b = .present) :
    s.activateVerdict = none := by
  have hboards : ¬(s.store.settings.showroom = false ∧ s.boardLink .a ≠ .present ∧ s.boardLink .b ≠ .present) := by
    rcases h with h | h | h <;> simp [h]
  simpa [State.activateVerdict, hm, hs, hpanel, hl1] using hboards

end

/-- R140, R105, R72: the entry to ACTIVE. -/
theorem State.enterActive_eq (s : State) :
    s.enterActive =
      { s with
        ctl := { s.ctl with mode := .active }
        boardA := s.enterActive.boardA
        boardB := s.enterActive.boardB
        levels := { s.levels with
          autoOff := autoOffWith { s with ctl := { s.ctl with mode := .active } } s.pans s.levels.pause }
        links := linksWith s [.modeChanged] } := by
  rw [State.enterActive, State.judgeAutoOff_eq, State.judgeLines_eq]; rfl

include hm in
/-- R105, R103: from STANDBY, where both lines are down, the entry to ACTIVE asserts the line of each board in use that
is not stuck. -/
theorem State.enterActive_board (hl : LinesFollow s) (bd : Board) :
    s.enterActive.board bd =
      if (s.boardLink bd).up = true ∧ s.store.settings.showroom = false ∧ (s.board bd).stuck = false then
        { s.board bd with line := true, settled := false, lineDown := none, freeFaults := false }
      else s.board bd := by
  have hline : (s.board bd).line = false := by
    obtain ⟨ha, hb⟩ := hl
    cases bd
    · exact ha.trans (by simp [State.lineWanted, hm])
    · exact hb.trans (by simp [State.lineWanted, hm])
  have hboard : (s.setMode .active).board bd = s.board bd := State.board_congr rfl rfl bd
  have hlink : (s.setMode .active).boardLink bd = s.boardLink bd := by
    rw [State.setMode, State.capture_boardLink]; exact State.boardLink_congr rfl bd
  have hwanted : (s.setMode .active).lineWanted bd = true ↔
      (s.boardLink bd).up = true ∧ s.store.settings.showroom = false ∧ (s.board bd).stuck = false := by
    simp [State.lineWanted, hboard, hlink, and_comm, and_assoc, and_left_comm]
  have hjudged : s.enterActive.board bd = (s.setMode .active).judgeLines.board bd :=
    State.board_congr (by simp [State.enterActive]) (by simp [State.enterActive]) bd
  rw [hjudged, State.judgeLines_board_eq, hboard, lineJudged, hline]
  by_cases hw : (s.setMode .active).lineWanted bd = true
  · rw [if_neg (by simp [hw]), if_pos hw, if_pos (hwanted.1 hw)]
  · rw [if_pos (by simpa using hw), if_neg (fun h => hw (hwanted.2 h))]

/-- R140: an Activate that is taken. -/
theorem exec_activate_taken (h : ReadyFor s p .activate f rest) (hv : s.activateVerdict = none) :
    exec (.activate p) s = .next { (s.dequeue p rest).enterActive with
      links := linksAfter s p rest [.modeChanged] (responseTo f .accepted []) } := by
  have hverdict : (s.dequeue p rest).activateVerdict = none :=
    (s.verdict_dequeue p p rest f.payload .activate).trans hv
  rw [exec_of_serve h fun _ => rfl, State.serve_taken h (es := [.modeChanged]) (r := .accepted) (data := [])
    (u := (s.dequeue p rest).enterActive)]
  · rw [hverdict]; rfl
  · rw [State.enterActive_eq]

end

/-- Settles O45: the conditions of Table 8-3 in their order, and the entry to ACTIVE. -/
theorem activateIsJudged : Obligations.ActivateIsJudged := by
  intro s p f rest h
  refine ⟨fun hm => ?_, fun hm hs => ?_, fun hm hs => ?_, fun hm hs hnot => ?_,
    fun hm hs hpanel hl1 hboards hlines => ?_⟩
  · exact exec_of_verdict h (State.verdict_busy (by simp [hm]) (.inl hm) (by simp) _)
  · exact exec_of_verdict h (State.verdict_busy hm (.inr hs) (by simp) _)
  · exact exec_of_verdict h (by simp [State.verdict, State.activateVerdict, hm, hs])
  · exact exec_of_verdict h (State.activateVerdict_notReady hm hs hnot)
  · refine ⟨_, exec_activate_taken h (State.activateVerdict_taken hm hs hpanel hl1 hboards), fun bd => ?_, ?_⟩
    · have hboard : (s.dequeue p rest).enterActive.board bd = _ :=
        State.enterActive_board (by simpa using hm) (by cases p <;> exact hlines) bd
      refine (State.board_congr rfl rfl bd).trans (hboard.trans ?_)
      cases p <;> cases bd <;> rfl
    · rw [State.enterActive_eq]; cases p <;> rfl

/-! ### Leaving ACTIVE (R141, R142) -/

section
variable (s : State)

theorem State.leaveActive_ctl : (s.leaveActive .standby).ctl = { s.ctl with mode := .standby } := by
  have hleft : (s.left .standby).ctl = (s.setMode .standby).ctl := by simp [State.left]
  rw [State.leaveActive_standby, show (s.left .standby).tryOperation.ctl = (s.left .standby).ctl by simp, hleft]; rfl

theorem State.leaveActive_links : (s.leaveActive .standby).links = linksWith s [.modeChanged] := by
  have hleft : (s.left .standby).links = (s.setMode .standby).links := by simp [State.left]
  rw [State.leaveActive_standby, show (s.left .standby).tryOperation.links = (s.left .standby).links by simp, hleft]
  rfl

/-- R143: what the leaving for STANDBY has left behind stands, whatever follows it within the step. -/
theorem State.leaveActive_left {t : State} (h : Stands (s.leaveActive .standby) t)
    (ht : t.ctl = (s.leaveActive .standby).ctl) : ActiveLeft t := by
  have hm : t.ctl.mode = .standby := by rw [ht, State.leaveActive_ctl]
  have hleaves : Leaves s t s.now := .standby s (.of_eq (.of_links rfl)) rfl h hm
  exact hleaves.shows.1 hm

end

section
variable {s : State} {p : Partner} {f : Frame} {rest : List Frame}

/-- R141: a Deactivate that is taken in ACTIVE. -/
theorem exec_deactivate_active (h : ReadyFor s p .deactivate f rest) (hm : s.ctl.mode = .active) :
    exec (.deactivate p) s = .next (((s.dequeue p rest).leaveActive .standby).respond p
      (s.partner p).produced.length f.tag (answer .accepted [])) := by
  have hmode : (s.dequeue p rest).ctl.mode = .active := by simpa using hm
  rw [exec_of_serve h fun _ => rfl, State.serve_ready h]
  simp only [hmode, State.leaveForStandby, if_true]
  rfl

/-- R72, R142: the auto-off timer runs out in ACTIVE. -/
theorem exec_autoOffExpiry_active {d : Nat} (hr : s.resetting = none) (hd : s.levels.autoOff = some d)
    (hm : s.ctl.mode = .active) :
    exec .autoOffExpiry s = .next ((s.elapseTo d).leaveActive .standby) := by
  rw [exec_of_expiry hr hd fun _ => rfl, State.leaveForStandby, if_pos (by simpa using hm)]

end

/-- Settles O46. -/
theorem deactivateAndAutoOffLeaveActive : Obligations.DeactivateAndAutoOffLeaveActive := by
  refine fun s => ⟨fun p f rest h => ⟨fun hm => ?_, fun hm => ?_, fun hm => ?_⟩, fun d hr hd hm => ?_⟩
  · refine ⟨_, exec_deactivate_active h hm, ?_, ?_, ?_⟩
    · simp [State.leaveActive_ctl]
    · exact State.leaveActive_left _ (State.respond_leaves _ _ _ _ _) (by simp)
    · rw [State.respond_eq s _ p f rest [.modeChanged] (State.leaveActive_links _)]
  · exact exec_of_verdict (req := .deactivate) h (if_pos hm)
  · exact exec_of_verdict (req := .deactivate) h (by simp [State.verdict, activeOnly, hm])
  · refine ⟨_, exec_autoOffExpiry_active hr hd hm, ?_, ?_, ?_, ?_⟩
    · simp [State.leaveActive_ctl]
    · exact State.leaveActive_left _ (.of_eq (.of_links rfl)) rfl
    · rw [State.leaveActive_links]; rfl
    · exact (State.leaveActive_frame _ _).1.trans (s.elapseTo_now d)

end Sys2Proof.Machine
end

section
/-! PROOFS. The presence timers of PANEL and REMOTE (R163, R164), and the step on an empty queue. -/

namespace Sys2Proof.Machine

open Sys2Proof.Safety

/-! ### The presence of PANEL and REMOTE (R164) -/

/-- R164: PRESENT becomes LATE, and the presence timer starts again. -/
theorem State.partnerExpiry_present {s : State} {p : Partner} (h : (s.partner p).link.state = .present) :
    s.partnerExpiry p =
      (s.modPartner p (fun r => { r with link :=
        { r.link with state := .late, presence := some (s.now + presenceTime (partnerLink p)) } })).capture
        .linkLate := by
  rw [State.partnerExpiry, h]; cases p <;> rfl

/-- R164: the loss of a partner, its capture and what follows. -/
def State.partnerLost (s : State) (p : Partner) : State :=
  ((s.modPartner p PartnerRec.lose).capture .linkLost).partnerGone p

/-- R164, R163: LATE becomes LOST. -/
theorem State.partnerExpiry_late {s : State} {p : Partner} (h : (s.partner p).link.state = .late) :
    s.partnerExpiry p = s.partnerLost p := by
  rw [State.partnerExpiry, h]; rfl

/-- R163, R167: no notice is produced for a partner that is not in use: what is entered stays in its set. -/
theorem enterEvent_down {r : PartnerRec} (h : r.link.state.up = false) (e : Event) :
    ∃ set, enterEvent e r = { r with captured := set } := by
  unfold enterEvent
  split
  · rw [h]; exact ⟨_, rfl⟩
  · exact ⟨r.captured, rfl⟩

theorem enterAll_down (es : List Event) {r : PartnerRec} (h : r.link.state.up = false) :
    ∃ set, enterAll es r = { r with captured := set } := by
  induction es generalizing r with
  | nil => exact ⟨r.captured, rfl⟩
  | cons e es ih =>
    obtain ⟨set, hset⟩ := enterEvent_down h e
    obtain ⟨set', hset'⟩ := ih (r := enterEvent e r) (by simpa using h)
    exact ⟨set', hset'.trans (by rw [hset])⟩

section
variable (s : State) (p : Partner)

/-- R142, R64: what follows the loss of a partner only captures events for the partners. -/
theorem State.partnerGone_partner : ∃ es, ∀ q, (s.partnerGone p).partner q = enterAll es (s.partner q) := by
  cases p with
  | panel =>
    by_cases hm : s.ctl.mode = .active
    · refine ⟨[.modeChanged], fun q => ?_⟩
      have hlinks := s.leaveActive_links
      rw [State.partnerGone, State.leaveForStandby, if_pos hm,
        State.partner_congr (s := { s with links := linksWith s [.modeChanged] }) hlinks]
      cases q <;> rfl
    · exact ⟨[], fun q => by rw [State.partnerGone, State.leaveForStandby, if_neg hm]; rfl⟩
  | remote => exact ⟨[], fun q => by cases q <;> rfl⟩

/-- R166: LINK_LOST is the first event that the loss of a partner captures. -/
theorem State.partnerLost_partner : ∃ es, ∀ q,
    (s.partnerLost p).partner q = enterAll (.linkLost :: es) ((s.modPartner p PartnerRec.lose).partner q) := by
  obtain ⟨es, hes⟩ := ((s.modPartner p PartnerRec.lose).capture .linkLost).partnerGone_partner p
  exact ⟨es, fun q => (hes q).trans (by rw [State.capture_partner]; rfl)⟩

/-- R163, R164: the record of a lost partner: presence, queue and produced frames dropped, the frame being sent kept. -/
theorem State.partnerLost_self : ∃ set, (s.partnerLost p).partner p = { (s.partner p).lose with captured := set } := by
  obtain ⟨es, hes⟩ := s.partnerLost_partner p
  obtain ⟨set, hset⟩ := enterAll_down (.linkLost :: es) (r := (s.partner p).lose) rfl
  exact ⟨set, (hes p).trans (by rw [State.partner_modPartner, hset])⟩

/-- R164, R166: LINK_LOST is captured for both partners, enabled or not. -/
theorem State.partnerLost_captured (q : Partner) : holds ((s.partnerLost p).partner q).captured .linkLost = true := by
  obtain ⟨es, hes⟩ := s.partnerLost_partner p
  rw [hes, holds_enterAll]; simp [alwaysCaptured]

variable {s p}

theorem State.partnerLost_panel_active (hm : s.ctl.mode = .active) :
    (s.partnerLost .panel).ctl = { s.ctl with mode := .standby } := by
  rw [State.partnerLost, State.partnerGone, State.leaveForStandby, if_pos (by simpa using hm),
    State.leaveActive_ctl]
  rfl

theorem State.partnerLost_panel_other (hm : s.ctl.mode ≠ .active) : (s.partnerLost .panel).ctl = s.ctl := by
  rw [State.partnerLost, State.partnerGone, State.leaveForStandby, if_neg (by simpa using hm)]; rfl

end

/-- Settles O32. -/
theorem partnerPresenceExpires : Obligations.PartnerPresenceExpires := by
  intro s p d hr hd
  have hexec : exec (.linkPresenceExpiry p) s = .next ((s.elapseTo d).partnerExpiry p) :=
    exec_of_expiry (g := State.partnerExpiry p) hr hd fun _ => rfl
  have hpartner : (s.elapseTo d).partner p = s.partner p := State.partner_congr (by simp) p
  refine ⟨fun hpresent => ?_, fun hlate => ?_⟩
  · rw [hexec, State.partnerExpiry_present (hpartner ▸ hpresent), State.elapseTo_now]
    cases p <;> rfl
  · rw [State.partnerExpiry_late (hpartner ▸ hlate)] at hexec
    obtain ⟨set, hself⟩ := (s.elapseTo d).partnerLost_self p
    refine ⟨_, hexec, ?_⟩
    rw [hself, hpartner]
    refine ⟨rfl, rfl, rfl, rfl, rfl, rfl, State.partnerLost_captured _ p, ?_, ?_, ?_⟩
    · rintro rfl hm
      rw [State.partnerLost_panel_active (by simpa using hm)]
    · rintro rfl hm
      exact (State.partnerLost_panel_other (by simpa using hm)).trans (by simp)
    · rintro rfl
      exact ⟨rfl, rfl⟩

/-! ### The step on an empty queue (log 1, log 4) -/

/-- R68: time passes for the boosts of the pans that heat at boost while no pause stands. -/
theorem State.elapse_eq (s : State) (dt : Nat) :
    s.elapse dt = { s with
      now := s.now + dt
      pans := s.pans.map (fun p =>
        if p.state = .heating ∧ s.levels.pause = false ∧ p.boost.isSome = true then p.countBoost dt else p) } := by
  simp [State.elapse, Pan.boostCounts, and_assoc]

/-- Settles O2. -/
theorem idleStepTakesDueTimerOrTicks : Obligations.IdleStepTakesDueTimerOrTicks := by
  intro s hq
  refine ⟨fun c hc => ?_, fun hn => ?_⟩
  · simp [step, hq, hc]
  · rw [← State.elapse_eq]; simp [step, hq, hn]

end Sys2Proof.Machine
end

section
/-! PROOFS. Why ChainQuiet is not kept by every step (R86, R118): it does not confine the wait set to the changed
generators, so it allows a stop pending on a generator that no operation marks, and the share computation may run that
one. -/

namespace Sys2Proof.Machine

open Sys2Proof.Safety

/-- ACTIVE at an L1 edge that starts a frame: pan 1 heats on coil 0, which generator 0 drives, and an operation that
changes no coil set waits on that generator, ARMED and with its stop pending. -/
def waitingUnchanged : State :=
  let s := State.reset
  let pan : Pan :=
    { number := 1, state := .heating, footprint := [0], prevFootprint := [], row := 5, col := 5, lastRow := 5,
      lastCol := 5, level := 5, source := .panel, boost := none, boostCounted := 0, request := 0, cap := 0, grant := 0,
      delivered := 0, effective := 0, limited := false, gens := [0], starved := false, recalled := false }
  { s with
    ctl := { s.ctl with mode := .active, startTimer := none }
    coils := s.coils.set 0 { s.coil 0 with cls := .full, temp := some 25, latched := some 0 }
    pans := [pan]
    levels := { s.levels with demand := [1] }
    gens := s.gens.set 0 { s.gen 0 with
      state := .armed, pan := some 1, coils := [0], fMin := some 250, pFull := some 1840, pFullFreq := some 250
      stopPending := true }
    route := { s.route with stage := .stopWait, target := s.latchedImage.set 0 (some 0), waitSet := [0] }
    boardA := { s.boardA with line := true, lineDown := none }
    links := { s.links with genA := { s.links.genA with state := .present } }
    mains := { s.mains with
      l1 := { s.mains.l1 with sync := .valid, voltage := some 230, reportAge := 0 }
      frame := { s.mains.frame with state := .handover } }
    pending := [.zeroCrossEdge .l1 0] }

/-- The same once the edge has been taken and the frame has started. -/
def waitingRun : State := ((waitingUnchanged.withPending []).elapseTo 0).edgeTaken .l1

theorem step_waitingUnchanged : step waitingUnchanged = .next waitingRun := rfl

theorem waitingUnchanged_modes : ModesAgree waitingUnchanged := by unfold ModesAgree; decide +kernel

theorem waitingUnchanged_routes : RoutesSound waitingUnchanged := by unfold RoutesSound ImageSound; decide +kernel

theorem waitingUnchanged_quiet : ChainQuiet waitingUnchanged := by
  refine ⟨fun bd => ?_, fun bd => ?_, ?_, ?_, ?_⟩
  · cases bd <;> decide +kernel
  · cases bd <;> decide +kernel
  all_goals decide +kernel

/-- R128, R133: the frame start gives generator 0 slots, and it runs with its stop still pending. -/
theorem waitingRun_gen : (waitingRun.gen 0).stopPending = true ∧ (waitingRun.gen 0).state = .running := by
  decide +kernel

/-- Refutes O20: the frame start in `waitingUnchanged` makes a generator RUNNING whose stop is pending. The premises do
not say that the wait set lies within the changed generators; only those carry the in-operation mark, which is what
keeps the share computation from running a generator that is waited on. -/
theorem not_routeImagesStaySound : ¬Obligations.RouteImagesStaySound := by
  intro h
  obtain ⟨-, hkept⟩ := h _ _ waitingUnchanged_modes waitingUnchanged_routes step_waitingUnchanged
  obtain ⟨-, -, hpending, -⟩ := hkept waitingUnchanged_quiet
  obtain ⟨hstop, hrun⟩ := waitingRun_gen
  obtain ⟨hidle, -⟩ := hpending 0 (by decide) hstop
  exact hidle hrun

end Sys2Proof.Machine
end

section
/-! PROOFS. What the chain does (R86, R87, R91): the latching of an image, the stopped reports, and a transfer that
completes. -/

namespace Sys2Proof.Machine

open Sys2Proof.Safety

/-! ### Latching an image (R87) -/

section
variable (s : State) (image : List (Option Nat))

theorem State.coil_latch {c : Nat} (h : c < s.coils.length) :
    (s.latch image).coil c = { s.coil c with latched := (image[c]?).getD none } :=
  s.coil_mapCoils (fun c k => { k with latched := (image[c]?).getD none }) h

theorem State.gen_latch {g : Nat} (h : g < s.gens.length) :
    (s.latch image).gen g = { s.gen g with coils := coilSet image g } :=
  (State.gen_congr (s.latch_gens image) g).trans (s.gen_mapGens _ h)

theorem State.gen_routeChanged {g : Nat} (h : g < s.gens.length) :
    s.routeChanged.gen g = { s.gen g with
      state :=
        if g ∈ s.route.changed ∧ (s.gen g).state ≠ .faulted ∧ (s.gen g).state ≠ .lost then .routing
        else (s.gen g).state } := by
  rw [State.routeChanged, s.gen_mapGens _ h]
  simp only [Bool.and_eq_true, List.contains_iff_mem, decide_eq_true_eq, and_assoc]
  split <;> rfl

theorem getD_open (l : List Nat) (c : Nat) : ((l.map fun _ => (none : Option Nat))[c]?).getD none = none := by
  rw [List.getElem?_map]; cases l[c]? <;> rfl

/-- R91: the all-open image gives no generator a coil. -/
theorem coilSet_open (g : Nat) : coilSet (coilIds.map fun _ => none) g = [] :=
  List.filter_eq_nil_iff.2 fun c _ => by simp only [getD_open, reduceCtorEq, decide_false, Bool.false_eq_true,
    not_false_eq_true]

/-! ### A transfer that completes (R87, R88, R91) -/

/-- R87: the target is latched and the compare flag set; the readback is judged next. -/
def State.transferred (s : State) : State :=
  let t := (s.latch s.route.target).routeChanged
  { t with route := { t.route with compare := true } }

theorem State.transferred_coils : s.transferred.coils =
    (s.mapCoils fun c k => { k with latched := (s.route.target[c]?).getD none }).coils := by
  simp [State.transferred, State.latch]

theorem State.coil_transferred {c : Nat} (h : c < s.coils.length) :
    s.transferred.coil c = { s.coil c with latched := (s.route.target[c]?).getD none } := s.coil_latch _ h

theorem State.gen_transferred {g : Nat} (h : g < s.gens.length) :
    s.transferred.gen g = { s.gen g with
      coils := coilSet s.route.target g
      state :=
        if g ∈ s.route.changed ∧ (s.gen g).state ≠ .faulted ∧ (s.gen g).state ≠ .lost then .routing
        else (s.gen g).state } := by
  show (s.latch s.route.target).routeChanged.gen g = _
  rw [State.gen_routeChanged _ (by simpa using h), s.gen_latch _ h]
  simp

variable {s} {readback : ChainWord}

theorem State.transferComplete_agrees (h : s.route.compare = true → readback = chainWord s.latchedImage) :
    s.transferComplete readback = s.transferred.beginSettle := by
  unfold State.transferComplete
  exact if_neg (by simpa using h)

theorem State.transferComplete_differs (hc : s.route.compare = true) (h : readback ≠ chainWord s.latchedImage) :
    s.transferComplete readback = s.transferred.enterHalt .routeReadback := by
  unfold State.transferComplete
  exact if_pos (by simp [hc, h])

theorem exec_chainTransferComplete (hr : s.resetting = none) (hs : s.route.stage = .shifting) :
    exec (.chainTransferComplete readback) s = .next (s.transferComplete readback) := by
  show execChainTransferComplete readback s = _
  rw [execChainTransferComplete, State.unlessReset_none _ hr, if_pos hs]

theorem exec_haltShiftComplete (hr : s.resetting = none) (hs : s.route.stage = .halted)
    (hh : s.route.haltShift = .shifting) :
    exec (.chainTransferComplete readback) s = .next s.haltShiftComplete := by
  show execChainTransferComplete readback s = _
  rw [execChainTransferComplete, State.unlessReset_none _ hr, if_neg (by simp [hs]), if_pos hh]

end

/-- Settles O17: HALT's all-open shift, and a transfer whose readback agrees or is not compared. -/
theorem transfersLatchTheChain : Obligations.TransfersLatchTheChain := by
  intro s readback hr h48 h8
  refine ⟨fun hs hh => ?_, fun hs hc => ?_⟩
  · refine ⟨_, exec_haltShiftComplete hr hs hh, fun c hc => ?_, fun g hg => ?_, rfl⟩
    · exact (s.coil_latch _ (h48 ▸ hc)).trans (by rw [getD_open])
    · exact (s.gen_latch _ (h8 ▸ hg)).trans (by rw [coilSet_open])
  · have hexec := exec_chainTransferComplete (readback := readback) hr hs
    rw [State.transferComplete_agrees hc] at hexec
    exact ⟨_, hexec, fun c hc => s.coil_transferred (h48 ▸ hc), fun g hg => s.gen_transferred (h8 ▸ hg), rfl⟩

end Sys2Proof.Machine
end

section
/-! PROOFS. Stop confirms and the settling of a line (R86, R101, R103, R104, R105, R111): the stopped reports, what they
do to the generators, and that a second capture of an event changes nothing. -/

namespace Sys2Proof.Machine

open Sys2Proof.Safety

theorem mem_gensOf {bd : Board} {g : Nat} : g ∈ gensOf bd ↔ g < 8 ∧ boardOf g = bd := by
  cases bd <;> simp only [gensOf, boardOf, List.mem_cons, List.not_mem_nil, or_false] <;> split <;>
    simp only [reduceCtorEq, and_true, and_false, iff_false] <;> omega

theorem restState_eq (x : Gen) : restState x = stoppedState x := by
  simp only [restState, stoppedState, List.isEmpty_iff]

/-! ### Stopped reports (R86) -/

section
variable {s : State}

/-- R86: the generators of a list are reported stopped. -/
theorem State.reportStopped_reports {l : List Nat} {stopped : Nat → Prop} (hl : ∀ g, g ∈ l ↔ stopped g) :
    StopsReported s (s.reportStopped l) stopped := by
  refine ⟨fun hs => ?_, fun hs => by rw [State.reportStopped, if_neg hs]; exact ⟨rfl, rfl⟩⟩
  have hmem : ∀ g, g ∈ s.route.waitSet.filter (fun g => !l.contains g) ↔ g ∈ s.route.waitSet ∧ ¬stopped g := by
    simp [hl]
  unfold State.reportStopped
  rw [if_pos hs]
  dsimp only
  generalize s.route.waitSet.filter (fun g => !l.contains g) = wait at hmem ⊢
  cases wait with
  | nil => exact ⟨hmem, rfl, rfl⟩
  | cons g rest =>
    refine ⟨hmem, ?_, ?_⟩
    · simp [← hs]
    · simp

/-- A stopped report changes the route record and what is sent, and nothing else. -/
theorem State.reportStopped_eq (l : List Nat) :
    s.reportStopped l = { s with route := (s.reportStopped l).route, out := (s.reportStopped l).out } := by
  unfold State.reportStopped
  dsimp only
  (repeat' split) <;> rfl

/-- Stopped reports are read off the route record and the lines alone. -/
theorem StopsReported.congr {s' t t' : State} {stopped : Nat → Prop} (h : StopsReported s' t' stopped)
    (hs : s'.route = s.route) (hso : s'.out = s.out) (ht : t.route = t'.route) (hto : t.out = t'.out) :
    StopsReported s t stopped := by
  unfold StopsReported at h ⊢
  rwa [ht, hto, ← hs, ← hso]

/-! ### Stop confirms (R101, R104) -/

theorem confirmStop_eq (x : Gen) : confirmStop x = if x.stopPending = true then confirmed x else x := by
  unfold confirmStop confirmed
  simp only [restState_eq, Bool.and_eq_true, decide_eq_true_eq, Bool.not_eq_true']

/-- A list of generators of a board, and the flag that says the same of each. -/
def Names (bd : Board) (l : List Nat) (named : Nat → Bool) : Prop :=
  ∀ g, g ∈ l ↔ (g < 8 ∧ boardOf g = bd) ∧ named g = true

/-- R101: what a confirm does before the stuck flag is looked at. -/
def State.confirmGens (l : List Nat) (s : State) : State :=
  (s.mapGens (fun g x => if l.contains g then confirmStop x else x)).reportStopped
    (l.filter (fun g => (s.gen g).stopPending))

theorem State.confirmGens_gens (l : List Nat) : (s.confirmGens l).gens =
    (s.mapGens (fun g x => if l.contains g then confirmStop x else x)).gens := by simp [State.confirmGens]

theorem State.confirmGens_eq (l : List Nat) : s.confirmGens l =
    { s with gens := (s.confirmGens l).gens, route := (s.confirmGens l).route, out := (s.confirmGens l).out } := by
  rw [State.confirmGens_gens]; exact State.reportStopped_eq _

theorem State.confirmGens_gen {bd : Board} {l : List Nat} {named : Nat → Bool} (hl : Names bd l named) {g : Nat}
    (h8 : s.gens.length = 8) (hg : g < 8) :
    (s.confirmGens l).gen g =
      if boardOf g = bd ∧ named g = true ∧ (s.gen g).stopPending = true then confirmed (s.gen g) else s.gen g := by
  have hgen : (s.confirmGens l).gen g = if g ∈ l then confirmStop (s.gen g) else s.gen g := by
    rw [State.gen_congr (State.confirmGens_gens l), s.gen_mapGens _ (h8 ▸ hg)]
    simp only [List.contains_iff_mem]
  rw [hgen, confirmStop_eq]
  simp only [hl g, hg, true_and, ite_and]

theorem State.confirmGens_reports {bd : Board} {l : List Nat} {named : Nat → Bool} (hl : Names bd l named) :
    StopsReported s (s.confirmGens l)
      (fun g => g < 8 ∧ boardOf g = bd ∧ named g = true ∧ (s.gen g).stopPending = true) := by
  refine StopsReported.congr (s' := s.mapGens fun g x => if l.contains g then confirmStop x else x)
    (State.reportStopped_reports fun g => ?_) rfl rfl rfl rfl
  rw [List.mem_filter, hl g]; simp only [and_assoc]

/-- A line that is judged changes its board's record alone. -/
theorem State.judgeLine_eq (bd : Board) :
    s.judgeLine bd = { s with boardA := (s.judgeLine bd).boardA, boardB := (s.judgeLine bd).boardB } := by
  unfold State.judgeLine
  (repeat' split) <;> cases bd <;> rfl

/-- R105: a line judged once its stuck flag is clear. -/
theorem State.clearStuck_board (bd : Board) :
    ((s.modBoard bd (fun r => { r with stuck := false })).judgeLine bd).board bd =
      lineJudged s.now (decide (s.ctl.mode = .active) && !s.store.settings.showroom && (s.boardLink bd).up)
        { s.board bd with stuck := false } := by
  have hlink : (s.modBoard bd (fun r => { r with stuck := false })).boardLink bd = s.boardLink bd :=
    State.boardLink_congr (by simp) bd
  rw [State.judgeLine_board, State.lineWanted, hlink, lineJudged]
  simp only [State.board_modBoard, State.modBoard_ctl, State.modBoard_store, State.modBoard_now, Bool.not_false,
    Bool.and_true, eq_comm, stopDelay]

/-- R101, R104, R105: the generators of a list are confirmed. -/
theorem State.stopConfirmed_confirms {bd : Board} {l : List Nat} {named : Nat → Bool} (hl : Names bd l named)
    (h8 : s.gens.length = 8) : StopsConfirmed s (s.stopConfirmed bd l) bd named := by
  have hall : (gensOf bd).all (fun g => l.contains g) = true ↔ ∀ g ∈ gensOf bd, named g = true := by
    simp only [List.all_eq_true, List.contains_iff_mem, hl _]
    exact forall₂_congr fun g hg => and_iff_right (mem_gensOf.1 hg)
  have hboard : ∀ q, (s.confirmGens l).board q = s.board q :=
    State.board_congr (by simp [State.confirmGens]) (by simp [State.confirmGens])
  have hlink : (s.confirmGens l).boardLink bd = s.boardLink bd :=
    State.boardLink_congr (by simp [State.confirmGens]) bd
  have hcases : s.stopConfirmed bd l =
      if (∀ g ∈ gensOf bd, named g = true) ∧ (s.board bd).stuck = true then
        ((s.confirmGens l).modBoard bd (fun r => { r with stuck := false })).judgeLine bd
      else s.confirmGens l := by
    exact if_congr (by rw [Bool.and_eq_true, hall, ← hboard bd]; rfl) rfl rfl
  obtain ⟨t, ht⟩ : ∃ t, t = s.stopConfirmed bd l := ⟨_, rfl⟩
  rw [← ht]; rw [hcases] at ht
  have hsame : t.gens = (s.confirmGens l).gens ∧ t.route = (s.confirmGens l).route ∧ t.out = (s.confirmGens l).out := by
    rw [ht]; split <;> simp
  obtain ⟨hgens, hroute, hout⟩ := hsame
  refine ⟨fun g hg => ?_, ?_, ?_, fun q hq => ?_, ?_⟩
  · rw [State.gen_congr hgens, State.confirmGens_gen hl h8 hg]
  · exact StopsReported.congr (State.confirmGens_reports hl) rfl rfl hroute hout
  · rw [ht]
    split
    · rw [State.clearStuck_board, hboard, hlink]; simp [State.confirmGens]
    · exact hboard bd
  · rw [ht]
    split
    · rw [State.judgeLine_board_ne _ hq, State.board_modBoard_ne _ _ hq, hboard]
    · exact hboard q
  · have hconfirm : s.confirmGens l =
        { s with gens := t.gens, route := t.route, out := t.out } := by
      rw [hgens, hroute, hout]; exact State.confirmGens_eq l
    have hkept : t = { s.confirmGens l with boardA := t.boardA, boardB := t.boardB } := by
      rw [ht]
      split
      · rw [State.judgeLine_eq]; cases bd <;> rfl
      · rfl
    rwa [hconfirm] at hkept

/-! ### The frames that confirm stops (R95, R101) -/

variable {bd : Board} {f : Frame} {rest : List Frame}

theorem names_all (bd : Board) : Names bd (gensOf bd) (fun _ => true) := fun g => by
  rw [mem_gensOf, and_iff_left rfl]

theorem names_filter (bd : Board) (named : Nat → Bool) : Names bd ((gensOf bd).filter named) named := fun g => by
  rw [List.mem_filter, mem_gensOf]

theorem exec_stopConfirm (h : BoardReady s bd f rest) (hk : f.kind = kindStopConfirm) (hl : f.payload.length = 1) :
    exec (.stopConfirm bd) s = .next ((s.modLink (boardLinkId bd) (fun r => { r with queue := rest })).stopConfirmed bd
      ((gensOf bd).filter (fun g => (byteAt f.payload 0).testBit (positionOf g)))) := by
  show execStopConfirm bd s = _
  rw [execStopConfirm, State.unlessReset_none _ h.1, State.takeBoardFrame_ready h hk, State.confirmFrame, if_pos hl]

theorem exec_boardHello (h : BoardReady s bd f rest) (hk : f.kind = kindHello) :
    exec (.boardHello bd) s = .next
      ((s.modLink (boardLinkId bd) (fun r => { r with queue := rest })).helloFrame bd f) := by
  show execBoardHello bd s = _
  rw [execBoardHello, State.unlessReset_none _ h.1, State.takeBoardFrame_ready h hk]

/-- R95: a hello of length 1 confirms every stop of its board exactly when it says all-stopped and the board was not
returning. -/
theorem State.helloFrame_eq (hk : f.kind = kindHello) (hl : f.payload.length = 1) :
    s.helloFrame bd f =
      if byteAt f.payload 0 % 2 = 1 ∧ f.returned = false then s.stopConfirmed bd (gensOf bd) else s :=
  if_congr (by simp [allStopped, hk, hl]) rfl rfl

end

/-- Settles O21: both frames confirm a list of generators of their board, or nothing. -/
theorem stopConfirmStopsGenerators : Obligations.StopConfirmStopsGenerators := by
  rintro s bd f rest hready h8 hl u rfl
  have h8' : (s.modLink (boardLinkId bd) (fun r => { r with queue := rest })).gens.length = 8 := by simpa using h8
  refine ⟨fun hk => ?_, fun hk => ⟨fun hall hret => ?_, fun hnot => ?_⟩⟩
  · exact ⟨_, exec_stopConfirm hready hk hl, State.stopConfirmed_confirms (names_filter bd _) h8'⟩
  · refine ⟨_, exec_boardHello hready hk, ?_⟩
    rw [State.helloFrame_eq hk hl, if_pos ⟨hall, hret⟩]
    exact State.stopConfirmed_confirms (names_all bd) h8'
  · rw [exec_boardHello hready hk, State.helloFrame_eq hk hl, if_neg]
    rintro ⟨hall, hret⟩
    exact hnot.elim (fun h => by omega) (fun h => by simp [h] at hret)

end Sys2Proof.Machine
end

section
/-! PROOFS. The settling of a line (R103, R108, R111, R91): what it does to the board and its generators, what it
captures, and HALT's shift. -/

namespace Sys2Proof.Machine

open Sys2Proof.Safety

/-! ### An event captured again (R166) -/

theorem enterEvent_entered {e : Event} {r : PartnerRec}
    (h : holds r.captured e = true ∨ (holds r.enabled e || alwaysCaptured e) = false) : enterEvent e r = r :=
  if_neg (by rcases h with h | h <;> simp [h])

/-- R166: an event entered again changes nothing. -/
theorem enterEvent_twice (e : Event) (r : PartnerRec) : enterEvent e (enterEvent e r) = enterEvent e r := by
  refine enterEvent_entered ?_
  rw [holds_enterEvent, enterEvent_enabled]
  cases holds r.enabled e || alwaysCaptured e <;> simp

theorem enterAll_same {e : Event} {es : List Event} (he : ∀ x ∈ es, x = e) (hne : es ≠ []) (r : PartnerRec) :
    enterAll es r = enterEvent e r := by
  induction es generalizing r with
  | nil => exact absurd rfl hne
  | cons x rest ih =>
    obtain ⟨rfl, hrest⟩ := List.forall_mem_cons.1 he
    show enterAll rest (enterEvent x r) = _
    by_cases hr : rest = []
    · rw [hr]; rfl
    · rw [ih hrest hr, enterEvent_twice]

/-- R166: the links after one event has been captured once or more. -/
theorem linksWith_same {e : Event} {es : List Event} (he : ∀ x ∈ es, x = e) (hne : es ≠ []) (s : State) :
    linksWith s es = linksWith s [e] := by
  simp only [linksWith, enterAll_same he hne]; rfl

/-! ### Generators as their line settles (R103, R111) -/

/-- R103, R111: a generator as its line settles, `free` being whether a leaving of ACTIVE waits for that. -/
def settledGen (free : Bool) (x : Gen) : Gen := if free then settleGenAfterLeave x else settleGen x

theorem settledGen_unconfirmed {x : Gen} (hu : x.unconfirmed = true) (hl : x.state ≠ .lost) (free : Bool) :
    settledGen free x = { x with
      state := .faulted, fault := .stuck, retries := 3, retryTimer := .stopped
      stopPending := false, stopTimer := none, unconfirmed := false } := by
  cases free <;> simp [settledGen, settleGenAfterLeave, settleGen, hu, hl]

theorem settleGen_confirmed {x : Gen} (h : x.unconfirmed = false ∨ x.state = .lost) :
    settleGen x = { x with
      stopPending := false, stopTimer := none, unconfirmed := false
      state :=
        if x.state = .stopping ∧ x.inOperation = false then stoppedState x
        else if x.state = .running then .armed else x.state } := by
  rw [settleGen, if_neg (by rcases h with h | h <;> simp [h])]
  simp [restState_eq]

theorem stoppedState_ne_faulted (x : Gen) : stoppedState x ≠ .faulted := by
  unfold stoppedState; split <;> decide

theorem Gen.freeFault_of_ne {x : Gen} (h : x.state ≠ .faulted) : x.freeFault = x := if_neg (by simp [h])

theorem settledGen_confirmed {x : Gen} (h : x.unconfirmed = false ∨ x.state = .lost) {free freed : Bool}
    (hf : freed = (free && decide (x.state = .faulted))) :
    settledGen free x = { x with
      stopPending := false, stopTimer := none, unconfirmed := false
      fault := if freed = true then .none else x.fault
      state :=
        if freed = true then .idle
        else if x.state = .stopping ∧ x.inOperation = false then stoppedState x
        else if x.state = .running then .armed else x.state } := by
  subst hf
  by_cases hx : x.state = .faulted
  · have hu : x.unconfirmed = false := h.resolve_right (by simp [hx])
    cases free <;> simp [settledGen, settleGenAfterLeave, settleGen_confirmed h, Gen.freeFault, hx, hu]
  · have hstate : (settleGen x).state ≠ .faulted := by
      rw [settleGen_confirmed h]
      dsimp only
      (repeat' split) <;> [exact stoppedState_ne_faulted x; decide; exact hx]
    have hsettled : settledGen free x = settleGen x := by
      unfold settledGen settleGenAfterLeave
      rw [Gen.freeFault_of_ne hstate]
      simp only [ite_self]
    rw [hsettled, settleGen_confirmed h]
    simp [hx]

/-! ### The board, its generators and what is captured (R103, R108) -/

section
variable {s : State}

/-- R103, R111: what the settling of a line does before the generators are reported stopped. -/
def State.settleBoard (bd : Board) (s : State) : State :=
  ((s.modBoard bd (fun r => { r with settled := true, lineDown := none, freeFaults := false })).mapGens (fun g x =>
    if boardOf g = bd then settledGen (s.board bd).freeFaults x else x)).captureAll
      (((gensOf bd).filter (fun g => settleFaults (s.gen g))).map (fun _ => .genFault))

theorem State.lineSettled_eq (bd : Board) :
    s.lineSettled bd = ((s.settleBoard bd).reportStopped (gensOf bd)).tryHaltShift := rfl

theorem State.settleBoard_boards (bd q : Board) : (s.settleBoard bd).board q =
    (s.modBoard bd (fun r => { r with settled := true, lineDown := none, freeFaults := false })).board q :=
  State.board_congr (by simp [State.settleBoard]) (by simp [State.settleBoard]) q

theorem State.settleBoard_board (bd : Board) : (s.settleBoard bd).board bd =
    { s.board bd with settled := true, lineDown := none, freeFaults := false } :=
  (s.settleBoard_boards bd bd).trans (s.board_modBoard bd _)

theorem State.settleBoard_board_ne {bd q : Board} (h : q ≠ bd) : (s.settleBoard bd).board q = s.board q :=
  (s.settleBoard_boards bd q).trans (s.board_modBoard_ne _ h)

theorem State.settleBoard_gen {bd : Board} {g : Nat} (hg : g < s.gens.length) : (s.settleBoard bd).gen g =
    if boardOf g = bd then settledGen (s.board bd).freeFaults (s.gen g) else s.gen g := by
  have hgens : (s.settleBoard bd).gens = (s.mapGens fun g x =>
      if boardOf g = bd then settledGen (s.board bd).freeFaults x else x).gens := by
    simp only [State.settleBoard, State.captureAll_frame]; cases bd <;> rfl
  rw [State.gen_congr hgens, s.gen_mapGens _ hg]

/-- R108: GEN_FAULT is captured when an unconfirmed generator becomes FAULTED. -/
theorem State.settleBoard_links (bd : Board) : (s.settleBoard bd).links =
    if ∃ g ∈ gensOf bd, (s.gen g).unconfirmed = true ∧ (s.gen g).state ≠ .lost ∧ (s.gen g).state ≠ .faulted then
      linksWith s [.genFault]
    else s.links := by
  have hlinks : (s.settleBoard bd).links =
      linksWith s (((gensOf bd).filter (fun g => settleFaults (s.gen g))).map (fun _ => .genFault)) := by
    unfold State.settleBoard; rw [State.captureAll_eq]; cases bd <;> rfl
  have hfault : ∀ x : Gen, settleFaults x = true ↔ x.unconfirmed = true ∧ x.state ≠ .lost ∧ x.state ≠ .faulted := by
    simp [settleFaults, and_assoc]
  simp only [hlinks, ← hfault]
  split
  · rename_i hex
    obtain ⟨g, hg, hgf⟩ := hex
    refine linksWith_same (fun x hx => ?_) (fun hnil => ?_) s
    · obtain ⟨-, -, rfl⟩ := List.mem_map.1 hx; rfl
    · exact List.not_mem_nil (List.map_eq_nil_iff.1 hnil ▸ List.mem_filter.2 ⟨hg, hgf⟩)
  · rename_i hno
    rw [List.filter_eq_nil_iff.2 fun g hg hgf => hno ⟨g, hg, hgf⟩]; rfl

theorem State.settleBoard_eq (bd : Board) : s.settleBoard bd =
    { s with gens := (s.settleBoard bd).gens, boardA := (s.settleBoard bd).boardA,
             boardB := (s.settleBoard bd).boardB, links := (s.settleBoard bd).links } := by
  simp only [State.settleBoard, State.captureAll_eq]; cases bd <;> rfl

/-! ### HALT's shift (R91) -/

theorem State.tryHaltShift_eq : s.tryHaltShift =
    { s with route := s.tryHaltShift.route, out := s.tryHaltShift.out } := by
  unfold State.tryHaltShift; split <;> rfl

theorem State.tryHaltShift_none (h : s.route.haltShift ≠ .waiting) : s.tryHaltShift = s := if_neg (by simp [h])

theorem State.tryHaltShift_waits (h : s.boardA.settled = false ∨ s.boardB.settled = false) : s.tryHaltShift = s :=
  if_neg (by rcases h with h | h <;> simp [h])

theorem State.tryHaltShift_shifts (h : s.route.haltShift = .waiting) (hset : ∀ bd, (s.board bd).settled = true) :
    s.tryHaltShift = { s with route := { s.route with haltShift := .shifting }, out := s.out ++ [.shift 0] } := by
  have ha : s.boardA.settled = true := hset .a
  have hb : s.boardB.settled = true := hset .b
  exact if_pos (by simp [h, ha, hb])

theorem State.reportStopped_haltShift (l : List Nat) : (s.reportStopped l).route.haltShift = s.route.haltShift := by
  unfold State.reportStopped
  dsimp only
  (repeat' split) <;> rfl

/-! ### The settling as a whole (R103) -/

theorem State.lineSettled_kept (bd : Board) : s.lineSettled bd =
    { s.settleBoard bd with route := (s.lineSettled bd).route, out := (s.lineSettled bd).out } := by
  rw [State.lineSettled_eq, State.tryHaltShift_eq, State.reportStopped_eq]

theorem State.lineSettled_stops {bd : Board} (h : s.route.haltShift ≠ .waiting) :
    StopsReported s (s.lineSettled bd) (fun g => g < 8 ∧ boardOf g = bd) := by
  have hroute : (s.settleBoard bd).route = s.route := by rw [State.settleBoard_eq]
  have hout : (s.settleBoard bd).out = s.out := by rw [State.settleBoard_eq]
  rw [State.lineSettled_eq, State.tryHaltShift_none (by rwa [State.reportStopped_haltShift, hroute])]
  exact StopsReported.congr (State.reportStopped_reports fun g => mem_gensOf) hroute hout rfl rfl

/-- R91: the all-open shift of HALT begins with the second line to settle. -/
theorem State.lineSettled_shift {bd : Board} (hw : s.route.haltShift = .waiting) (hs : s.route.stage = .halted) :
    ((∀ other, other ≠ bd → (s.board other).settled = true) →
      (s.lineSettled bd).route = { s.route with haltShift := .shifting } ∧
        (s.lineSettled bd).out = s.out ++ [.shift 0]) ∧
    ((∃ other, other ≠ bd ∧ (s.board other).settled = false) →
      (s.lineSettled bd).route = s.route ∧ (s.lineSettled bd).out = s.out) := by
  have hroute : (s.settleBoard bd).route = s.route := by rw [State.settleBoard_eq]
  have hout : (s.settleBoard bd).out = s.out := by rw [State.settleBoard_eq]
  have hidle : (s.settleBoard bd).reportStopped (gensOf bd) = s.settleBoard bd :=
    if_neg (by simp [hroute, hs])
  rw [State.lineSettled_eq, hidle]
  refine ⟨fun hset => ?_, fun ⟨other, hne, hset⟩ => ?_⟩
  · rw [State.tryHaltShift_shifts (by rwa [hroute]) fun q => ?_]
    · exact ⟨by rw [hroute], by rw [hout]⟩
    · by_cases hq : q = bd
      · rw [hq, State.settleBoard_board]
      · rw [State.settleBoard_board_ne hq]; exact hset q hq
  · rw [← State.settleBoard_board_ne hne] at hset
    rw [State.tryHaltShift_waits (by cases other <;> [exact .inl hset; exact .inr hset])]
    exact ⟨hroute, hout⟩

end

/-- Settles O25: the board and its generators first, then the stopped reports or HALT's shift. -/
theorem lineDownSettlesBoard : Obligations.LineDownSettlesBoard := by
  intro s bd d hr hd h8
  have hexec : exec (.lineDownTimerExpiry bd) s = .next ((s.elapseTo d).lineSettled bd) :=
    exec_of_expiry (timer := fun t => (t.board bd).lineDown) (g := State.lineSettled bd) hr hd fun _ => rfl
  have hkept := (s.elapseTo d).lineSettled_kept bd
  obtain ⟨t, ht⟩ : ∃ t, t = (s.elapseTo d).lineSettled bd := ⟨_, rfl⟩
  rw [← ht] at hkept hexec
  have hboard : ∀ q, t.board q = ((s.elapseTo d).settleBoard bd).board q := fun q => by rw [hkept]; cases q <;> rfl
  have hgen : ∀ g < 8, t.gen g =
      if boardOf g = bd then settledGen (s.board bd).freeFaults (s.gen g) else s.gen g := fun g hg =>
    (State.gen_congr (s := (s.elapseTo d).settleBoard bd) (by rw [hkept]) g).trans
      (State.settleBoard_gen (s := s.elapseTo d) (h8 ▸ hg))
  refine ⟨t, hexec, ?_, fun q hq => ?_, fun g hg hne => ?_,
    fun g hg hbd => ⟨fun hu hl => ?_, fun hu freed hf => ?_⟩, ?_, fun hw => ?_, fun hw hs => ?_, ?_⟩
  · rw [hboard, State.settleBoard_board]; rfl
  · rw [hboard, State.settleBoard_board_ne hq]; rfl
  · rw [hgen g hg, if_neg hne]
  · rw [hgen g hg, if_pos hbd, settledGen_unconfirmed hu hl]
  · rw [hgen g hg, if_pos hbd, settledGen_confirmed hu hf]
  · rw [hkept]; exact (s.elapseTo d).settleBoard_links bd
  · exact ht ▸ State.lineSettled_stops (s := s.elapseTo d) hw
  · exact ht ▸ State.lineSettled_shift (s := s.elapseTo d) hw hs
  · have hsettle := (s.elapseTo d).settleBoard_eq bd
    have hgens : t.gens = ((s.elapseTo d).settleBoard bd).gens := by rw [hkept]
    have ha : t.boardA = ((s.elapseTo d).settleBoard bd).boardA := hboard .a
    have hb : t.boardB = ((s.elapseTo d).settleBoard bd).boardB := hboard .b
    have hlinks : t.links = ((s.elapseTo d).settleBoard bd).links := by rw [hkept]
    rw [← hgens, ← ha, ← hb, ← hlinks] at hsettle
    rw [hsettle] at hkept
    exact hkept

end Sys2Proof.Machine
end

section
/-! PROOFS. The test of R84 and the settle's end (R84, R85, R87, R89, R100): which generators a stop order names, what
goes out, and the operation that starts. -/

namespace Sys2Proof.Machine

open Sys2Proof.Safety

/-! ### The stop orders (R100) -/

section
variable {s : State}

theorem maskOf_eq_sum (bits : List Nat) : maskOf bits = (bits.map (2 ^ ·)).sum := by
  have hfold : ∀ n, bits.foldl (fun n i => n + 2 ^ i) n = n + (bits.map (2 ^ ·)).sum := by
    induction bits with
    | nil => simp
    | cons i rest ih => intro n; simp [ih, Nat.add_assoc]
  rw [maskOf, hfold, Nat.zero_add]

theorem sum_map_filter (f : Nat → Nat) (keep : Nat → Bool) (l : List Nat) :
    ((l.filter keep).map f).sum = (l.map fun x => if keep x = true then f x else 0).sum := by
  induction l with
  | nil => rfl
  | cons x rest ih => by_cases hx : keep x = true <;> simp [hx, ih]

/-- R100: the generators that a board's stop order names. -/
theorem State.stopNames_eq (wait : List Nat) (bd : Board) :
    s.stopNames wait bd = (gensOf bd).filter (stopNamed s wait) := by
  have hbd : ∀ g ∈ gensOf bd, s.boardLink (boardOf g) = s.boardLink bd := fun g hg => by
    obtain ⟨-, hb⟩ := mem_gensOf.1 hg; rw [hb]
  unfold State.stopNames
  split
  · rename_i hup
    refine List.filter_congr fun g hg => ?_
    simp only [stopNamed, hbd g hg, hup, List.contains_eq_mem, Bool.and_true]
    rw [Bool.and_assoc, Bool.and_assoc, Bool.and_comm (!_)]
  · rename_i hdown
    refine (List.filter_eq_nil_iff.2 fun g hg => ?_).symm
    simp [stopNamed, hbd g hg, hdown]

theorem State.mem_stopNames {wait : List Nat} {bd : Board} {g : Nat} :
    g ∈ s.stopNames wait bd ↔ (g < 8 ∧ boardOf g = bd) ∧ stopNamed s wait g = true := by
  rw [State.stopNames_eq, List.mem_filter, mem_gensOf]

theorem State.stopNames_mask (wait : List Nat) (bd : Board) :
    maskOf ((s.stopNames wait bd).map positionOf) =
      ((gensOf bd).map (fun g => if stopNamed s wait g then 2 ^ positionOf g else 0)).sum := by
  rw [maskOf_eq_sum, State.stopNames_eq, List.map_map, sum_map_filter]; rfl

/-- R100: what a board's stop order puts on its link. -/
theorem State.sendStopOrder_out (wait : List Nat) (bd : Board) :
    (s.sendStopOrder wait bd).out = s.out ++ stopOrder s wait bd := by
  unfold State.sendStopOrder stopOrder
  dsimp only
  by_cases hnone : s.stopNames wait bd = []
  · have hno : ¬∃ g ∈ gensOf bd, stopNamed s wait g = true := fun ⟨g, hg, hgs⟩ =>
      List.not_mem_nil (hnone ▸ State.mem_stopNames.2 ⟨mem_gensOf.1 hg, hgs⟩)
    rw [if_pos (by simp [hnone]), if_neg hno, List.append_nil]
  · obtain ⟨g, hg⟩ := List.exists_mem_of_ne_nil _ hnone
    obtain ⟨hbd, hgs⟩ := State.mem_stopNames.1 hg
    rw [if_neg (by simpa using hnone), if_pos ⟨g, mem_gensOf.2 hbd, hgs⟩, State.stopNames_mask]
    rfl

/-- R100: a generator of the board, once its stop order has gone out. -/
theorem State.sendStopOrder_gen {wait : List Nat} {bd : Board} {g : Nat} (hg : g < s.gens.length) :
    (s.sendStopOrder wait bd).gen g =
      if g ∈ s.stopNames wait bd then orderStop s.now (s.gen g) else s.gen g := by
  unfold State.sendStopOrder
  dsimp only
  split
  · rename_i hnone
    rw [if_neg (by simp [List.isEmpty_iff.1 hnone])]
  · rw [State.gen_congr (State.emit_gens _ _), s.gen_mapGens _ hg]
    simp only [List.contains_iff_mem]

theorem State.sendStopOrder_eq (wait : List Nat) (bd : Board) : s.sendStopOrder wait bd =
    { s with gens := (s.sendStopOrder wait bd).gens, out := (s.sendStopOrder wait bd).out } := by
  unfold State.sendStopOrder
  dsimp only
  split <;> rfl

/-- Whether a stop order names a generator is read off its record and its board's link. -/
theorem stopNamed_congr {t : State} {wait : List Nat} {g : Nat} (hstate : (t.gen g).state = (s.gen g).state)
    (hpending : (t.gen g).stopPending = (s.gen g).stopPending) (hl : t.links = s.links) :
    stopNamed t wait g = stopNamed s wait g := by
  rw [stopNamed, hstate, hpending, State.boardLink_congr hl, stopNamed]

theorem stopOrder_congr {t : State} {wait : List Nat} {bd : Board}
    (h : ∀ g ∈ gensOf bd, stopNamed t wait g = stopNamed s wait g) : stopOrder t wait bd = stopOrder s wait bd := by
  have hmap : (gensOf bd).map (fun g => if stopNamed t wait g then 2 ^ positionOf g else 0) =
      (gensOf bd).map (fun g => if stopNamed s wait g then 2 ^ positionOf g else 0) :=
    List.map_congr_left fun g hg => by rw [h g hg]
  have hex : (∃ g ∈ gensOf bd, stopNamed t wait g = true) ↔ ∃ g ∈ gensOf bd, stopNamed s wait g = true :=
    exists_congr fun g => and_congr_right fun hg => by rw [h g hg]
  unfold stopOrder
  rw [hmap]
  exact if_congr hex rfl rfl

/-- R100: both stop orders of an operation, board A's first (log 39). -/
def State.sendStopOrders (wait : List Nat) (s : State) : State := (s.sendStopOrder wait .a).sendStopOrder wait .b

theorem State.sendStopOrders_eq (wait : List Nat) : s.sendStopOrders wait =
    { s with gens := (s.sendStopOrders wait).gens, out := (s.sendStopOrders wait).out } := by
  unfold State.sendStopOrders
  rw [State.sendStopOrder_eq, State.sendStopOrder_eq]

/-- Board A's stop order changes nothing of which generators of board B are named. -/
theorem State.sendStopOrder_named_b (h8 : s.gens.length = 8) (wait : List Nat) {g : Nat} (hg : g ∈ gensOf .b) :
    (s.sendStopOrder wait .a).gen g = s.gen g ∧ stopNamed (s.sendStopOrder wait .a) wait g = stopNamed s wait g := by
  obtain ⟨hlt, hbd⟩ := mem_gensOf.1 hg
  have hgen : (s.sendStopOrder wait .a).gen g = s.gen g := by
    rw [State.sendStopOrder_gen (h8 ▸ hlt), if_neg fun hmem => ?_]
    obtain ⟨⟨-, ha⟩, -⟩ := State.mem_stopNames.1 hmem
    simp [hbd] at ha
  exact ⟨hgen, stopNamed_congr (by rw [hgen]) (by rw [hgen]) (by simp)⟩

theorem State.sendStopOrders_out (h8 : s.gens.length = 8) (wait : List Nat) :
    (s.sendStopOrders wait).out = s.out ++ stopOrder s wait .a ++ stopOrder s wait .b := by
  rw [State.sendStopOrders, State.sendStopOrder_out, State.sendStopOrder_out,
    stopOrder_congr fun g hg => (s.sendStopOrder_named_b h8 wait hg).2]

theorem State.sendStopOrders_gen (h8 : s.gens.length = 8) (wait : List Nat) {g : Nat} (hg : g < 8) :
    (s.sendStopOrders wait).gen g = if stopNamed s wait g = true then orderStop s.now (s.gen g) else s.gen g := by
  have hlen : g < (s.sendStopOrder wait .a).gens.length := by simpa [h8] using hg
  rw [State.sendStopOrders, State.sendStopOrder_gen hlen]
  cases hbd : boardOf g with
  | a =>
    rw [if_neg fun hmem => ?_, State.sendStopOrder_gen (h8 ▸ hg)]
    · exact if_congr (by simp [State.mem_stopNames, hg, hbd]) rfl rfl
    · obtain ⟨⟨-, hb⟩, -⟩ := State.mem_stopNames.1 hmem
      simp [hbd] at hb
  | b =>
    obtain ⟨hgen, hnamed⟩ := s.sendStopOrder_named_b h8 wait (mem_gensOf.2 ⟨hg, hbd⟩)
    rw [hgen, show (s.sendStopOrder wait .a).now = s.now by simp]
    exact if_congr (by simp [State.mem_stopNames, hg, hbd, hnamed]) rfl rfl

end

/-! ### An operation that starts (R84, R85, R87) -/

section
variable {s : State}

/-- R85: the generators whose coil set an operation would change. -/
def State.changing (s : State) : List Nat :=
  genIds.filter (fun g => coilSet s.desiredImage g ≠ coilSet s.latchedImage g)

/-- R85: those of them that do not count as stopped. -/
def State.waitedOn (s : State) : List Nat := s.changing.filter (fun g => !countsStopped s g)

/-- R85: the operation as it begins, before its stop orders. -/
def State.markChanging (s : State) : State :=
  let t := s.mapGens (fun g x => if s.changing.contains g then { x with inOperation := true } else x)
  { t with route := { s.route with
      stage := .stopWait, target := s.desiredImage, changed := s.changing, waitSet := s.waitedOn } }

/-- R84, R85, R100, R87: with the stage READY and the images apart, the changed generators are marked, the stop orders
go out, and with nothing to wait for the transfer begins. -/
theorem State.tryOperation_begins (hs : s.route.stage = .ready) (hne : s.desiredImage ≠ s.latchedImage) :
    s.tryOperation =
      if s.waitedOn = [] then (s.markChanging.sendStopOrders s.waitedOn).beginTransfer
      else s.markChanging.sendStopOrders s.waitedOn := by
  have hbegin : s.tryOperation =
      if s.waitedOn.isEmpty then (s.markChanging.sendStopOrders s.waitedOn).beginTransfer
      else s.markChanging.sendStopOrders s.waitedOn := if_pos (by simp [hs, hne])
  rw [hbegin]
  exact if_congr List.isEmpty_iff rfl rfl

theorem State.markChanging_length (s : State) : s.markChanging.gens.length = s.gens.length := by
  simp [State.markChanging]

theorem State.markChanging_gen (h8 : s.gens.length = 8) {g : Nat} (hg : g < 8) : s.markChanging.gen g =
    { s.gen g with inOperation := (s.gen g).inOperation || decide (g ∈ s.changing) } := by
  refine (s.gen_mapGens (fun g x => if s.changing.contains g then { x with inOperation := true } else x)
    (h8 ▸ hg)).trans ?_
  by_cases hc : g ∈ s.changing <;> simp [hc]

theorem State.markChanging_named (h8 : s.gens.length = 8) (wait : List Nat) {g : Nat} (hg : g < 8) :
    stopNamed s.markChanging wait g = stopNamed s wait g :=
  stopNamed_congr (by rw [s.markChanging_gen h8 hg]) (by rw [s.markChanging_gen h8 hg]) rfl

/-- R85, R100: a generator as an operation starts. -/
theorem State.tryOperation_gen (hs : s.route.stage = .ready) (hne : s.desiredImage ≠ s.latchedImage)
    (h8 : s.gens.length = 8) {g : Nat} (hg : g < 8) : s.tryOperation.gen g = { s.gen g with
      inOperation := (s.gen g).inOperation || decide (g ∈ s.changing)
      state := if stopNamed s s.waitedOn g = true ∧ (s.gen g).state = .running then .stopping else (s.gen g).state
      stopPending := (s.gen g).stopPending || stopNamed s s.waitedOn g
      stopTimer := if stopNamed s s.waitedOn g then some (s.now + 40 * ms) else (s.gen g).stopTimer } := by
  have hgens : s.tryOperation.gens = (s.markChanging.sendStopOrders s.waitedOn).gens := by
    rw [State.tryOperation_begins hs hne, apply_ite State.gens, State.beginTransfer_gens, ite_self]
  have h8' : s.markChanging.gens.length = 8 := s.markChanging_length.trans h8
  rw [State.gen_congr hgens, State.sendStopOrders_gen h8' _ hg, s.markChanging_named h8 _ hg,
    s.markChanging_gen h8 hg]
  cases stopNamed s s.waitedOn g
  · simp
  · simp [orderStop, stopTime]; rfl

theorem State.tryOperation_out (hs : s.route.stage = .ready) (hne : s.desiredImage ≠ s.latchedImage)
    (h8 : s.gens.length = 8) : s.tryOperation.out =
      s.out ++ stopOrder s s.waitedOn .a ++ stopOrder s s.waitedOn .b ++
        (if s.waitedOn = [] then [.shift (chainWord s.desiredImage)] else []) := by
  have h8' : s.markChanging.gens.length = 8 := s.markChanging_length.trans h8
  have horder : ∀ bd, stopOrder s.markChanging s.waitedOn bd = stopOrder s s.waitedOn bd := fun bd =>
    stopOrder_congr fun g hg => s.markChanging_named h8 _ (mem_gensOf.1 hg).1
  have hout : (s.markChanging.sendStopOrders s.waitedOn).out =
      s.out ++ stopOrder s s.waitedOn .a ++ stopOrder s s.waitedOn .b := by
    rw [State.sendStopOrders_out h8', horder, horder]; rfl
  have htarget : (s.markChanging.sendStopOrders s.waitedOn).route.target = s.desiredImage := by
    rw [State.sendStopOrders_eq]; rfl
  rw [State.tryOperation_begins hs hne, ← hout]
  split
  · rw [State.beginTransfer, State.emit_out, ← htarget]
  · rw [List.append_nil]

theorem State.tryOperation_route (hs : s.route.stage = .ready) (hne : s.desiredImage ≠ s.latchedImage) :
    s.tryOperation.route = { s.route with
      target := s.desiredImage, changed := s.changing, waitSet := s.waitedOn
      stage := if s.waitedOn = [] then .shifting else .stopWait } := by
  have hroute : (s.markChanging.sendStopOrders s.waitedOn).route = s.markChanging.route := by
    rw [State.sendStopOrders_eq]
  rw [State.tryOperation_begins hs hne]
  split
  · rw [State.beginTransfer, State.emit_route, hroute]; rfl
  · rw [hroute]; rfl

theorem State.tryOperation_eq : s.tryOperation =
    { s with gens := s.tryOperation.gens, route := s.tryOperation.route, out := s.tryOperation.out } := by
  by_cases h : s.route.stage = .ready ∧ s.desiredImage ≠ s.latchedImage
  · rw [State.tryOperation_begins h.1 h.2]
    split
    · rw [State.sendStopOrders_eq]; rfl
    · rw [State.sendStopOrders_eq]; rfl
  · have hidle : s.tryOperation = s := if_neg (by simpa using h)
    rw [hidle]

/-- R84, R85, R100, R87: the model's test of R84 is that of the statements. -/
theorem State.tryOperation_tested (h8 : s.gens.length = 8) : OperationTested s s.tryOperation := by
  refine ⟨fun h => if_neg (by simpa using h), fun hs hne => ?_⟩
  have hroute := State.tryOperation_route hs hne
  have hchanged : s.tryOperation.route.changed = s.changing := by rw [hroute]
  have hwait : s.tryOperation.route.waitSet = s.waitedOn := by rw [hroute]
  rw [hchanged, hwait]
  exact ⟨rfl, rfl, hroute, fun g hg => State.tryOperation_gen hs hne h8 hg, State.tryOperation_out hs hne h8,
    State.tryOperation_eq⟩

/-! ### The end of the settle (R89) -/

/-- R89: the marks clear, ROUTING generators rest and the operation ends, before the test of R84. -/
def State.operationEnded (s : State) : State :=
  let t := s.mapGens (fun g x =>
    if s.route.changed.contains g then
      { x with state := if x.state = .routing then restState x else x.state, inOperation := false }
    else x)
  { t with route := { t.route with stage := .ready, target := [], changed := [], waitSet := [], settleTimer := none } }

theorem State.settleExpired_eq : s.settleExpired = s.operationEnded.tryOperation := rfl

theorem State.operationEnded_length (s : State) : s.operationEnded.gens.length = s.gens.length := by
  simp [State.operationEnded]

theorem State.operationEnded_gen {g : Nat} (hg : g < s.gens.length) : s.operationEnded.gen g =
    if g ∈ s.route.changed then
      { s.gen g with
        inOperation := false
        state := if (s.gen g).state = .routing then stoppedState (s.gen g) else (s.gen g).state }
    else s.gen g := by
  refine (s.gen_mapGens (fun g x =>
    if s.route.changed.contains g then
      { x with state := if x.state = .routing then restState x else x.state, inOperation := false }
    else x) hg).trans ?_
  simp only [List.contains_iff_mem, restState_eq]

end

/-- Settles O19: the operation ends in `operationEnded`, and the test of R84 follows. -/
theorem settleEndsTheOperation : Obligations.SettleEndsTheOperation := by
  intro s d hr hd h8
  have hexec : exec .settleTimerExpiry s = .next (s.elapseTo d).operationEnded.tryOperation :=
    exec_of_expiry (timer := fun t => t.route.settleTimer) (g := State.settleExpired) hr hd fun _ => rfl
  obtain ⟨u, hu⟩ : ∃ u, u = (s.elapseTo d).operationEnded := ⟨_, rfl⟩
  rw [← hu] at hexec
  have h8' : u.gens.length = 8 := by rw [hu]; exact (State.operationEnded_length _).trans h8
  have hready : u.route.stage = .ready := by rw [hu]; rfl
  have hdesired : u.desiredImage = s.desiredImage := by rw [hu]; rfl
  have hlatched : u.latchedImage = s.latchedImage := by rw [hu]; rfl
  rw [← hdesired, ← hlatched]
  refine ⟨u, _, hexec, fun g hg => ?_, by rw [hu]; rfl, State.tryOperation_tested h8', State.tryOperation_settled,
    fun hne => ?_⟩
  · rw [hu]; exact State.operationEnded_gen (s := s.elapseTo d) (h8 ▸ hg)
  · obtain ⟨htarget, hstage⟩ := State.tryOperation_starts hready hne
    refine ⟨htarget, hstage, fun g hg => ?_⟩
    rw [State.tryOperation_route hready hne] at hg
    have hchanging : g ∈ u.changing := hg
    rw [State.tryOperation_gen hready hne h8' (List.mem_range.1 (List.mem_filter.1 hchanging).1)]
    simp [hchanging]

end Sys2Proof.Machine
end

section
/-! PROOFS. The entry to HALT from every mode (R88, R91, R99, R144, R145, R155): what it shows of the state it is
entered from, and that the values of the report which led to it hide nothing of that. -/

namespace Sys2Proof.Machine

open Sys2Proof.Safety

/-! ### The mode becomes HALT (R145) -/

section
variable {s : State}

theorem State.setMode_ctl (s : State) (m : Mode) : (s.setMode m).ctl = { s.ctl with mode := m } := rfl

theorem State.setMode_partner (s : State) (m : Mode) (p : Partner) :
    (s.setMode m).partner p = enterAll [.modeChanged] (s.partner p) := by cases p <;> rfl

theorem State.left_ctl (s : State) (m : Mode) : (s.left m).ctl = { s.ctl with mode := m } := by
  rw [← State.setMode_ctl]; simp [State.left]

theorem State.modeToHalt_ctl (hm : s.ctl.mode ≠ .halt) : s.modeToHalt.ctl = { s.ctl with
    mode := .halt, startTimer := if s.ctl.mode = .start then none else s.ctl.startTimer } := by
  unfold State.modeToHalt
  split <;> rename_i h
  · rw [State.leaveActive_halt, State.left_ctl, h]; rfl
  · rw [h]; rfl
  · rw [State.setMode_ctl, show s.abandonSurvey.ctl = s.ctl by simp, h]; rfl
  · rw [h]; rfl
  · exact absurd h hm

theorem State.modeToHalt_partner (hm : s.ctl.mode ≠ .halt) (p : Partner) :
    s.modeToHalt.partner p = enterAll [.modeChanged] (s.partner p) := by
  unfold State.modeToHalt
  split <;> rename_i h
  · rw [State.leaveActive_halt, State.left_partner]
  · exact s.setMode_partner .halt p
  · rw [State.setMode_partner, State.partner_congr (show s.abandonSurvey.links = s.links by simp)]
  · exact s.setMode_partner .halt p
  · exact absurd h hm

theorem State.modeToHalt_route : s.modeToHalt.route = s.route := by
  unfold State.modeToHalt
  split <;> simp [State.leaveActive_halt]

/-- R145, R83: the mode's change opens the desired image at most. -/
theorem State.modeToHalt_coil (c : Nat) :
    s.modeToHalt.coil c = s.coil c ∨ s.modeToHalt.coil c = { s.coil c with desired := none } := by
  unfold State.modeToHalt
  split
  · rw [State.leaveActive_halt]; exact .inr (s.left_coil .halt c)
  all_goals exact .inl (State.coil_congr (by simp) c)

/-- R145, R155: a survey in progress is abandoned. -/
theorem State.modeToHalt_survey (hm : s.ctl.mode = .survey) (hs : s.survey.state ≠ .idle) :
    s.modeToHalt.survey = s.survey.drop .abandoned := by
  unfold State.modeToHalt State.abandonSurvey
  rw [hm, if_neg hs]; simp

/-! ### The Route Controller's part (R91) -/

theorem State.routeHalt_coil (h : s.route.stage ≠ .halted) (c : Nat) :
    s.routeHalt.coil c = { s.coil c with desired := none } := by
  have hshift : ∀ u : State, u.tryHaltShift.coil c = u.coil c := fun u => State.coil_congr (by simp) c
  rw [State.routeHalt, if_neg h]
  dsimp only
  rw [hshift]
  simp only [State.coil, State.openImage, List.getElem?_map]
  cases s.coils[c]? <;> rfl

theorem State.routeHalt_marks (h : s.route.stage ≠ .halted) : ∀ x ∈ s.routeHalt.gens, x.inOperation = false := by
  rw [State.routeHalt, if_neg h]
  simp

/-! ### The entry as a whole (R144, R145) -/

/-- Where the modes, the survey, the partners and the baselines are those of `s`. -/
structure HaltSees (s u : State) : Prop where
  ctl : u.ctl = s.ctl
  survey : u.survey = s.survey
  partner : ∀ p, u.partner p = s.partner p
  baseline : ∀ c, (u.coil c).baseline = (s.coil c).baseline

/-- R88, R91, R137, R144, R145, R155: what the entry to HALT shows of the state `s` it is entered from. -/
structure HaltShows (s t : State) (cause : HaltCause) : Prop where
  ctl : t.ctl = { s.ctl with
    mode := .halt, haltCause := cause, lastHalt := cause
    startTimer := if s.ctl.mode = .start then none else s.ctl.startTimer }
  stage : t.route.stage = .halted
  lines : ∀ bd, (t.board bd).line = false
  desired : ∀ c, (t.coil c).desired = none
  marks : ∀ x ∈ t.gens, x.inOperation = false
  survey : s.ctl.mode = .survey → s.survey.state ≠ .idle → t.survey = s.survey.drop .abandoned
  baseline : ∀ c, (t.coil c).baseline = (s.coil c).baseline
  halted : ∀ p, holds (t.partner p).captured .halted = true
  modeChanged : ∀ p, holds (s.partner p).enabled .modeChanged = true → holds (t.partner p).captured .modeChanged = true
  surveyEvent : ∀ p, holds (t.partner p).captured .survey = holds (s.partner p).captured .survey

/-- R144, R145: outside HALT the mode becomes HALT, the cause and HALTED are entered, and the lines and the Route
Controller follow. -/
theorem State.enterHalt_eq (hm : s.ctl.mode ≠ .halt) (cause : HaltCause) :
    s.enterHalt cause = (s.modeToHalt.halted cause).judgeLines.routeHalt := if_neg hm

theorem State.enterHalt_partner (hm : s.ctl.mode ≠ .halt) (cause : HaltCause) (p : Partner) :
    (s.enterHalt cause).partner p = enterAll [.modeChanged, .halted] (s.partner p) := by
  have hlinks : (s.enterHalt cause).links = (s.modeToHalt.halted cause).links := by
    rw [State.enterHalt_eq hm]; simp
  have hpartner : (s.modeToHalt.halted cause).partner p = enterAll [.halted] (s.modeToHalt.partner p) := by
    cases p <;> rfl
  rw [State.partner_congr hlinks, hpartner, State.modeToHalt_partner hm]; rfl

theorem State.enterHalt_coil (hm : s.ctl.mode ≠ .halt) (hs : s.route.stage ≠ .halted) (cause : HaltCause) (c : Nat) :
    (s.enterHalt cause).coil c = { s.coil c with desired := none } := by
  have hstage : (s.modeToHalt.halted cause).judgeLines.route.stage ≠ .halted := by
    simpa [State.halted, State.modeToHalt_route] using hs
  have hcoil : (s.modeToHalt.halted cause).judgeLines.coil c = s.modeToHalt.coil c :=
    State.coil_congr (by simp [State.halted]) c
  rw [State.enterHalt_eq hm, State.routeHalt_coil hstage, hcoil]
  rcases s.modeToHalt_coil c with h | h <;> rw [h]

theorem State.enterHalt_shows (hm : s.ctl.mode ≠ .halt) (hs : s.route.stage ≠ .halted) (cause : HaltCause) :
    HaltShows s (s.enterHalt cause) cause where
  ctl := by
    have hctl : (s.enterHalt cause).ctl = { s.modeToHalt.ctl with haltCause := cause, lastHalt := cause } := by
      rw [State.enterHalt_eq hm]; simp [State.halted]
    rw [hctl, State.modeToHalt_ctl hm]
  stage := by rw [State.enterHalt_eq hm]; exact State.routeHalt_stage _
  lines bd := by
    have hboard : (s.enterHalt cause).board bd = (s.modeToHalt.halted cause).judgeLines.board bd := by
      rw [State.enterHalt_eq hm]; exact State.board_congr (by simp) (by simp) bd
    have hmode : (s.modeToHalt.halted cause).ctl.mode = .halt := by
      show s.modeToHalt.ctl.mode = .halt
      rw [State.modeToHalt_ctl hm]
    rw [hboard, State.judgeLines_board, State.judgeLine_line]
    simp [State.lineWanted, hmode]
  desired c := by rw [State.enterHalt_coil hm hs]
  marks := by
    rw [State.enterHalt_eq hm]
    exact State.routeHalt_marks (by simpa [State.halted, State.modeToHalt_route] using hs)
  survey hv hv' := by
    rw [← State.modeToHalt_survey hv hv', State.enterHalt_eq hm]; simp [State.halted]
  baseline c := by rw [State.enterHalt_coil hm hs]
  halted p := by rw [State.enterHalt_partner hm, holds_enterAll]; simp [alwaysCaptured]
  modeChanged p hp := by rw [State.enterHalt_partner hm, holds_enterAll]; simp [hp]
  surveyEvent p := by rw [State.enterHalt_partner hm, holds_enterAll]; simp

/-- The entry shows the same of a state whose modes, survey, partners and baselines are alike. -/
theorem HaltShows.before {u t : State} {cause : HaltCause} (h : HaltShows u t cause) (hs : HaltSees s u) :
    HaltShows s t cause where
  ctl := hs.ctl ▸ h.ctl
  stage := h.stage
  lines := h.lines
  desired := h.desired
  marks := h.marks
  survey := hs.ctl ▸ hs.survey ▸ h.survey
  baseline c := (h.baseline c).trans (hs.baseline c)
  halted := h.halted
  modeChanged p := hs.partner p ▸ h.modeChanged p
  surveyEvent p := hs.partner p ▸ h.surveyEvent p

/-! ### The values of the report that led to HALT (R97, R99) -/

theorem enterAll_append (es es' : List Event) (r : PartnerRec) :
    enterAll (es ++ es') r = enterAll es' (enterAll es r) := List.foldl_append

/-- R25: an intake captures COIL_HOT at most. -/
theorem State.intake_partner (s : State) (reading : Nat → Option Reading) : ∃ es : List Event,
    (∀ e ∈ es, e = .coilHot) ∧ ∀ p, (s.intake reading).partner p = enterAll es (s.partner p) := by
  refine ⟨_, fun e he => ?_, fun p => State.captureAll_partner _ _ p⟩
  obtain ⟨-, -, rfl⟩ := List.mem_map.1 he; rfl

/-- R108: the generator fields of a report capture GEN_FAULT at most. -/
theorem State.takeGenFields_partner (s : State) (bd : Board) (r : BoardReport) : ∃ es : List Event,
    (∀ e ∈ es, e = .genFault) ∧ ∀ p, (s.takeGenFields bd r).partner p = enterAll es (s.partner p) := by
  refine ⟨_, fun e he => ?_, fun p => State.captureAll_partner _ _ p⟩
  obtain ⟨-, -, rfl⟩ := List.mem_map.1 he; rfl

/-- The samples and temperatures of a report, which showroom mode passes over (R16, R30). -/
def State.takeReadings (bd : Board) (r : BoardReport) (s : State) : State :=
  if s.store.settings.showroom then s else s.intake (reportReading bd r)

theorem State.takeValues_eq (s : State) (bd : Board) (r : BoardReport) : s.takeValues bd r =
    (((s.takeReadings bd r).modPhase (boardPhase bd) (PhaseRec.takeVoltage r.voltage)).takeGenFields bd r).modBoard bd
      (fun x => { x with lastReport := some r }) := rfl

/-- What a report's values capture is no SURVEY. -/
theorem State.takeValues_partner (s : State) (bd : Board) (r : BoardReport) : ∃ es : List Event,
    .survey ∉ es ∧ ∀ p, (s.takeValues bd r).partner p = enterAll es (s.partner p) := by
  obtain ⟨hot, hhot, hread⟩ : ∃ es : List Event, .survey ∉ es ∧
      ∀ p, (s.takeReadings bd r).partner p = enterAll es (s.partner p) := by
    unfold State.takeReadings
    split
    · exact ⟨[], List.not_mem_nil, fun _ => rfl⟩
    · obtain ⟨es, hes, h⟩ := s.intake_partner (reportReading bd r)
      exact ⟨es, fun hmem => absurd (hes _ hmem) (by decide), h⟩
  obtain ⟨faults, hfaults, hgens⟩ :=
    ((s.takeReadings bd r).modPhase (boardPhase bd) (PhaseRec.takeVoltage r.voltage)).takeGenFields_partner bd r
  refine ⟨hot ++ faults, fun hmem => ?_, fun p => ?_⟩
  · exact (List.mem_append.1 hmem).elim hhot fun h => absurd (hfaults _ h) (by decide)
  · have hphase : ((s.takeReadings bd r).modPhase (boardPhase bd) (PhaseRec.takeVoltage r.voltage)).partner p =
        (s.takeReadings bd r).partner p := State.partner_congr (by simp) p
    rw [State.takeValues_eq, enterAll_append, ← hread, ← hphase, ← hgens]
    exact State.partner_congr (by simp) p

/-- R16: a report's values leave every coil's baseline and its place in the desired image. -/
theorem State.takeValues_coil (s : State) (bd : Board) (r : BoardReport) (c : Nat) :
    ((s.takeValues bd r).coil c).baseline = (s.coil c).baseline ∧
      ((s.takeValues bd r).coil c).desired = (s.coil c).desired := by
  have hcoil : (s.takeValues bd r).coil c = (s.takeReadings bd r).coil c :=
    State.coil_congr (by simp [State.takeValues_eq]) c
  rw [hcoil, State.takeReadings]
  split
  · exact ⟨rfl, rfl⟩
  · simp only [State.coil, State.intake_coils, State.mapCoils_getElem?]
    cases s.coils[c]? with
    | none => exact ⟨rfl, rfl⟩
    | some k =>
      refine ⟨(intakeCoil_frame _ _ c k).1, ?_⟩
      show (intakeCoil s.store.settings (reportReading bd r) c k).desired = k.desired
      unfold intakeCoil
      split <;> [rfl; exact (takeReading_image _ _ k).desired]

theorem takeGenReport_mark (now : Nat) (r : GenReport) (x : Gen) :
    (takeGenReport now r x).inOperation = x.inOperation := by
  unfold takeGenReport
  dsimp only
  (repeat' split) <;> rfl

theorem State.takeValues_marks (s : State) (bd : Board) (r : BoardReport) (h : ∀ x ∈ s.gens, x.inOperation = false) :
    ∀ x ∈ (s.takeValues bd r).gens, x.inOperation = false := by
  obtain ⟨u, -, hgens, he⟩ := s.takeValues_fields bd r
  have hmap : (s.takeValues bd r).gens = (u.mapGens fun g x =>
      if boardOf g = bd then takeGenReport u.now (reportBlock r g) x else x).gens := by
    rw [he]; simp [State.takeGenFields]
  have hmarks : List.Forall₂ (fun x y : Gen => y.inOperation = x.inOperation) s.gens (s.takeValues bd r).gens := by
    rw [hmap, ← hgens]
    exact u.mapGens_forall₂ fun g x _ => by split <;> [exact takeGenReport_mark _ _ x; rfl]
  intro y hy
  obtain ⟨x, hx, hxy⟩ := exists_left_of_forall₂ hmarks hy
  exact hxy.trans (h x hx)

theorem State.takeValues_line (s : State) (bd q : Board) (r : BoardReport) :
    ((s.takeValues bd r).board q).line = (s.board q).line := by
  have hread : (s.takeReadings bd r).board q = s.board q := by
    unfold State.takeReadings; split <;> [rfl; exact State.board_congr (by simp) (by simp) q]
  rw [State.takeValues_eq, ((State.lastReport_leaves _ bd r).lines q).line, ← hread]
  exact congrArg BoardRec.line (State.board_congr (by simp) (by simp) q)

/-- R152: no samples reach an idle survey. -/
theorem State.takeValues_survey (bd : Board) (r : BoardReport) (h : s.survey.state = .idle) :
    (s.takeValues bd r).survey = s.survey := by
  have hread : (s.takeReadings bd r).survey = s.survey := by
    unfold State.takeReadings
    split
    · rfl
    · rw [State.intake_survey, Survey.handCoils_idle h]
  rw [State.takeValues_eq, ← hread]; simp

theorem HaltShows.takeValues {u : State} {cause : HaltCause} (h : HaltShows s u cause) (bd : Board) (r : BoardReport) :
    HaltShows s (u.takeValues bd r) cause := by
  obtain ⟨-, hctl, hroute⟩ := u.takeValues_keeps bd r
  obtain ⟨es, hes, hpartner⟩ := u.takeValues_partner bd r
  refine ⟨hctl.trans h.ctl, hroute ▸ h.stage, fun q => ?_, fun c => ?_, u.takeValues_marks bd r h.marks,
    fun hm hs => ?_, fun c => ?_, fun p => ?_, fun p hp => ?_, fun p => ?_⟩
  · rw [State.takeValues_line, h.lines]
  · rw [(u.takeValues_coil bd r c).2, h.desired]
  · have hv := h.survey hm hs
    rw [State.takeValues_survey bd r (by rw [hv]; rfl), hv]
  · rw [(u.takeValues_coil bd r c).1, h.baseline]
  · rw [hpartner, holds_enterAll, h.halted, Bool.true_or]
  · rw [hpartner, holds_enterAll, h.modeChanged p hp, Bool.true_or]
  · rw [hpartner, holds_enterAll, h.surveyEvent]; simp [hes]

/-! ### The commands that find a cause of HALT (R88, R99) -/

/-- R180, R97: a part 1 at the front that joins a held part 0 is taken as their report. -/
theorem exec_report_ready {bd : Board} {f : Frame} {rest : List Frame} {r : BoardReport}
    (h : ReportReady s bd f rest r) :
    exec (.report bd) s = .next (((s.modLink (boardLinkId bd) (fun x => { x with queue := rest })).modBoard bd
      (fun x => { x with held := none })).takeReport bd r) := by
  obtain ⟨hready, hkind, hlen, hpart, samples, hheld, hr⟩ := h
  have hboard : (s.modLink (boardLinkId bd) (fun x => { x with queue := rest })).board bd = s.board bd :=
    State.board_congr (by simp) (by simp) bd
  show execReport bd s = _
  rw [execReport, State.unlessReset_none _ hready.1, State.takeBoardFrame_ready hready hkind, State.reportFrame,
    if_neg (by simp [hlen]), if_pos (by simp [hlen, hpart]), hboard, hheld, hr]
  exact congrArg _ (if_pos rfl)

/-- R99, R144: a report of drive on a settled line enters HALT, and its values are taken then. -/
theorem exec_report_drives {bd : Board} {f : Frame} {rest : List Frame} {r : BoardReport}
    (h : ReportReady s bd f rest r) (hd : DrivesAfterStop s bd r) (hm : s.ctl.mode ≠ .halt)
    (hs : s.route.stage ≠ .halted) :
    ∃ t, exec (.report bd) s = .next t ∧ HaltShows s t .driveAfterStop := by
  have hexec := exec_report_ready h
  obtain ⟨u, hu⟩ : ∃ u, u = (s.modLink (boardLinkId bd) (fun x => { x with queue := rest })).modBoard bd
    (fun x => { x with held := none }) := ⟨_, rfl⟩
  rw [← hu] at hexec
  have hctl : u.ctl = s.ctl := by rw [hu]; simp
  have hroute : u.route = s.route := by rw [hu]; simp
  have hsees : HaltSees s u := by
    refine ⟨hctl, by rw [hu]; simp, fun p => ?_, fun c => by rw [State.coil_congr (s := s) (by rw [hu]; simp) c]⟩
    rw [hu]; cases bd <;> cases p <;> rfl
  have hdrive : u.driveAfterStop bd r = true := by
    have hboard : u.board bd = { s.board bd with held := none } := by
      rw [hu, State.board_modBoard, State.board_congr (s := s) (by simp) (by simp) bd]
    rw [State.driveAfterStop_iff, DrivesAfterStop, hboard]; exact hd
  refine ⟨_, hexec, ?_⟩
  rw [State.takeReport_eq, if_pos hdrive]
  exact ((State.enterHalt_shows (hctl ▸ hm) (hroute ▸ hs) _).before hsees).takeValues bd r

/-- R88, R144: a readback that disagrees enters HALT with the target latched. -/
theorem exec_chainTransferComplete_halts {readback : ChainWord} (hr : s.resetting = none) (hm : s.ctl.mode ≠ .halt)
    (hs : s.route.stage = .shifting) (hc : s.route.compare = true) (hb : readback ≠ chainWord s.latchedImage) :
    ∃ t, exec (.chainTransferComplete readback) s = .next t ∧ HaltShows s t .routeReadback := by
  have hsees : HaltSees s s.transferred := by
    refine ⟨by simp [State.transferred], by simp [State.transferred],
      State.partner_congr (by simp [State.transferred]), fun c => ?_⟩
    simp only [State.coil, State.transferred_coils, State.mapCoils_getElem?]
    cases s.coils[c]? <;> rfl
  have hstage : s.transferred.route.stage ≠ .halted := by simp [State.transferred, hs]
  have hmode : s.transferred.ctl.mode ≠ .halt := by rw [hsees.ctl]; exact hm
  have hexec := exec_chainTransferComplete (readback := readback) hr hs
  rw [State.transferComplete_differs hc hb] at hexec
  exact ⟨_, hexec, (State.enterHalt_shows hmode hstage _).before hsees⟩

end

/-- Settles O18: both causes enter HALT from a state that sees the modes, the survey and the partners of `s`. -/
theorem haltIsEntered : Obligations.HaltIsEntered := by
  intro s c cause hr hm hs hcause
  have hshows : ∃ t, exec c s = .next t ∧ HaltShows s t cause := by
    rcases hcause with ⟨readback, rfl, rfl, hstage, hcompare, hdiffers⟩ | ⟨bd, f, rest, r, rfl, rfl, hready, hdrives⟩
    · exact exec_chainTransferComplete_halts hr hm hstage hcompare hdiffers
    · exact exec_report_drives hready hdrives hm hs
  obtain ⟨t, hexec, h⟩ := hshows
  refine ⟨t, hexec, by rw [h.ctl], by rw [h.ctl], by rw [h.ctl], by rw [h.ctl], h.stage, h.lines .a, h.lines .b,
    h.halted, fun k hk => ?_, h.marks, h.modeChanged,
    fun hv hv' => ⟨h.survey hv hv', h.surveyEvent, fun c _ => h.baseline c⟩⟩
  obtain ⟨c, hc, hk⟩ := List.getElem_of_mem hk
  simpa [State.coil, hc, hk] using h.desired c

end Sys2Proof.Machine
end

section
/-! PROOFS. What every command keeps of the residues, of the modes and of the enable lines (R98, R105, R130, R138,
R139): the relation between two states in which it is said. -/

namespace Sys2Proof.Machine

open Sys2Proof.Safety

/-! ### Residues (R98, R128, R130) -/

/-- R98, R130: a generator's residue is 0 or below the energy of one slot. -/
def ResidueBelow (x : Gen) : Prop := x.residue = 0 ∨ x.residue < x.pFull.getD 0

/-- From one record of a generator to the next, a residue below the energy of one slot stays below it. -/
def StaysBelow (x y : Gen) : Prop := ResidueBelow x → ResidueBelow y

theorem StaysBelow.refl (x : Gen) : StaysBelow x x := id

theorem StaysBelow.trans {x y z : Gen} (h : StaysBelow x y) (h' : StaysBelow y z) : StaysBelow x z := h' ∘ h

theorem StaysBelow.of_eq {x y : Gen} (hr : y.residue = x.residue) (hp : y.pFull = x.pFull) : StaysBelow x y := by
  unfold StaysBelow ResidueBelow; rw [hr, hp]; exact id

theorem residuesKept_of_gens {s t : State} (hs : ResiduesKept s) (h : List.Forall₂ StaysBelow s.gens t.gens) :
    ResiduesKept t := fun g hg => gen_of_forall₂ h (.refl _) g (hs g hg)

theorem gens_trans {l m n : List Gen} (h : List.Forall₂ StaysBelow l m) (h' : List.Forall₂ StaysBelow m n) :
    List.Forall₂ StaysBelow l n :=
  forall₂_trans (R := StaysBelow) (S := StaysBelow) (fun _ _ _ => StaysBelow.trans) h h'

/-- R110: a lost generator has no residue. -/
theorem Gen.lose_below (x : Gen) : StaysBelow x x.lose := fun _ => .inl rfl

theorem Gen.freeFault_below (x : Gen) : StaysBelow x x.freeFault := by
  unfold Gen.freeFault; split <;> exact .of_eq rfl rfl

theorem Gen.comeBack_below (x : Gen) : StaysBelow x x.comeBack := by
  unfold Gen.comeBack; split <;> exact .of_eq rfl rfl

theorem confirmStop_below (x : Gen) : StaysBelow x (confirmStop x) := by
  unfold confirmStop; split <;> exact .of_eq rfl rfl

theorem settleGen_below (x : Gen) : StaysBelow x (settleGen x) := by
  unfold settleGen; split <;> exact .of_eq rfl rfl

theorem settleGenAfterLeave_below (x : Gen) : StaysBelow x (settleGenAfterLeave x) := by
  unfold settleGenAfterLeave
  split
  · exact settleGen_below x
  · exact (settleGen_below x).trans (Gen.freeFault_below _)

/-- R98: a changed P_full limits the residue below it at once. -/
theorem takeGenValues_below (r : GenReport) (x : Gen) : StaysBelow x (takeGenValues r x) := by
  unfold StaysBelow ResidueBelow takeGenValues
  dsimp only
  split
  · rename_i h; rw [h]; exact id
  · omega

theorem takeGenReport_below (now : Nat) (r : GenReport) (x : Gen) : StaysBelow x (takeGenReport now r x) := by
  have hvalues := takeGenValues_below r x
  unfold takeGenReport
  (repeat' split) <;> exact hvalues.trans (.of_eq rfl rfl)

/-! ### The plans of the share computation (R128 to R130) -/

/-- R128: the slots of every generator planned come from its P_full, or it has none. -/
def PlansFrom (s : State) (plans : List GenPlan) : Prop :=
  ∀ g, (planOf plans g).power = 0 ∨ (planOf plans g).power = (s.gen g).pFull.getD 0

theorem State.firstPlans_power (s : State) (grants : List Grant) : PlansFrom s (s.firstPlans grants) := by
  intro g
  unfold planOf State.firstPlans
  simp only [List.getElem?_map, genIds]
  by_cases hg : g < 8
  · simp only [List.getElem?_range hg, Option.map_some, Option.getD_some, State.planGen]
    split
    · exact .inr rfl
    · exact .inl rfl
  · simp [hg]

theorem planOf_set (plans : List GenPlan) (g h : Nat) (x : GenPlan) :
    planOf (plans.set g x) h = if g = h ∧ h < plans.length then x else planOf plans h := by
  unfold planOf
  by_cases hg : g = h
  · subst hg
    by_cases hl : g < plans.length <;> simp [hl]
  · simp [hg]

/-- R129: the phase check removes slots and changes no P_full. -/
theorem trimWalk_power (limit : Nat) (order : List Nat) (plans : List GenPlan) (planned removed h : Nat) :
    (planOf (trimWalk limit order plans planned removed).1 h).power = (planOf plans h).power := by
  induction order generalizing plans planned removed with
  | nil => rfl
  | cons g rest ih =>
    rw [trimWalk, ih, planOf_set]
    split
    · rename_i hg; rw [hg.1]
    · rfl

theorem PlansFrom.phaseCheck {s : State} {plans : List GenPlan} (h : PlansFrom s plans) (bd : Board) :
    PlansFrom s (s.phaseCheck bd plans).1 := fun g => by
  rw [State.phaseCheck, trimWalk_power]; exact h g

/-- R130: the residue of a plan lies below its P_full. -/
theorem GenPlan.residue_below (x : GenPlan) : x.residue = 0 ∨ x.residue < x.power := by
  unfold GenPlan.residue; split
  · exact .inl rfl
  · exact .inr (by omega)

theorem GenPlan.write_below {g : Nat} {x : Gen} {r : GenPlan} (hr : r.power = 0 ∨ r.power = x.pFull.getD 0) :
    ResidueBelow (r.write g x) := by
  have hres := r.residue_below
  show r.residue = 0 ∨ r.residue < x.pFull.getD 0
  omega

/-- Generator by generator rewritten, each told by its index. -/
theorem State.mapGens_forall₂_gen {R : Gen → Gen → Prop} (s : State) {f : Nat → Gen → Gen}
    (hf : ∀ g, R (s.gen g) (f g (s.gen g))) : List.Forall₂ R s.gens (s.mapGens f).gens := by
  refine List.forall₂_iff_get.2 ⟨by simp, fun i hi hj => ?_⟩
  have hget := s.mapGens_getElem? f i
  rw [List.getElem?_eq_getElem hi, List.getElem?_eq_getElem hj] at hget
  have hgen : s.gen i = s.gens[i] := by simp [State.gen, hi]
  simpa [Option.some.inj hget, hgen] using hf i

theorem State.shareComputation_gens (s : State) : s.shareComputation.gens = (s.mapGens (fun g x =>
    (planOf (s.phaseCheck .b (s.phaseCheck .a (s.firstPlans s.grants)).1).1 g).write g x)).gens := by
  unfold State.shareComputation; simp

/-- R130: the share computation leaves every residue below the energy of one slot. -/
theorem State.shareComputation_below (s : State) : List.Forall₂ StaysBelow s.gens s.shareComputation.gens := by
  have hplans : PlansFrom s (s.phaseCheck .b (s.phaseCheck .a (s.firstPlans s.grants)).1).1 :=
    ((s.firstPlans_power _).phaseCheck .a).phaseCheck .b
  rw [State.shareComputation_gens]
  exact s.mapGens_forall₂_gen fun g _ => GenPlan.write_below (hplans g)

end Sys2Proof.Machine
end

section
/-! PROOFS. The relation in which every command's care for the residues, the modes and the enable lines is said, and the
operations that move none of what the modes and the lines look at. -/

namespace Sys2Proof.Machine

open Sys2Proof.Safety

/-! ### The relation -/

/-- Table 9-1, R139: outside a reset, a survey is under way exactly in SURVEY, and the START timer runs only in
START. -/
structure Awake (s : State) : Prop where
  modes : ModesAgree s
  resetting : s.resetting = none

section
variable {s t u : State}

theorem Awake.of_modes (hv : s.ctl.mode = .survey ↔ s.survey.state ≠ .idle)
    (ht : s.ctl.startTimer.isSome = true → s.ctl.mode = .start) (hr : s.resetting = none) : Awake s :=
  ⟨⟨hv, ht, by simp [hr]⟩, hr⟩

/-- Outside SURVEY no survey is under way. -/
theorem Awake.idle (h : Awake s) (hm : s.ctl.mode ≠ .survey) : s.survey.state = .idle := by
  obtain ⟨⟨hsurvey, -, -⟩, -⟩ := h
  by_contra hs
  exact hm (hsurvey.2 hs)

theorem Awake.survey (h : Awake s) (hs : s.survey.state ≠ .idle) : s.ctl.mode = .survey := h.modes.1.2 hs

/-- Outside START its timer is stopped. -/
theorem Awake.startTimer (h : Awake s) (hm : s.ctl.mode ≠ .start) : s.ctl.startTimer = none := by
  obtain ⟨⟨-, hstart, -⟩, -⟩ := h
  by_contra ht
  exact hm (hstart (Option.isSome_iff_ne_none.2 ht))

/-- A device outside SURVEY and a reset, with no survey and no START timer. -/
theorem Awake.of_rest (hm : s.ctl.mode ≠ .survey) (hv : s.survey.state = .idle) (ht : s.ctl.startTimer = none)
    (hr : s.resetting = none) : Awake s :=
  .of_modes (by simp [hm, hv]) (by simp [ht]) hr

theorem Awake.of_eq (h : Awake s) (hc : t.ctl = s.ctl := by simp)
    (hv : t.survey.state = .idle ↔ s.survey.state = .idle := by simp) (hr : t.resetting = s.resetting := by simp) :
    Awake t := by
  obtain ⟨⟨hsurvey, hstart, -⟩, hreset⟩ := h
  exact .of_modes (by rw [hc, ne_eq, hv]; exact hsurvey) (by rw [hc]; exact hstart) (hr.trans hreset)

theorem linesFollow_iff : LinesFollow s ↔ ∀ bd, (s.board bd).line = s.lineWanted bd :=
  ⟨fun ⟨ha, hb⟩ bd => by cases bd <;> assumption, fun h => ⟨h .a, h .b⟩⟩

/-- R105: outside ACTIVE no line is wanted. -/
theorem State.lineWanted_outside (hm : s.ctl.mode ≠ .active) (bd : Board) : s.lineWanted bd = false := by
  simp [State.lineWanted, hm]

theorem linesFollow_of_down (hm : s.ctl.mode ≠ .active) (h : ∀ bd, (s.board bd).line = false) : LinesFollow s :=
  linesFollow_iff.2 fun bd => by rw [h, State.lineWanted_outside hm]

/-- What every command outside the resets keeps: the residues below one slot's energy, the survey and the START timer
in agreement with the mode, and the lines following their conditions. -/
structure Abides (s t : State) : Prop where
  gens : List.Forall₂ StaysBelow s.gens t.gens
  awake : Awake s → Awake t
  lines : Awake s → LinesFollow s → LinesFollow t

theorem Abides.refl : Abides s s := ⟨forall₂_of_eq .refl rfl, id, fun _ => id⟩

theorem Abides.trans (h : Abides s t) (h' : Abides t u) : Abides s u where
  gens := gens_trans h.gens h'.gens
  awake := h'.awake ∘ h.awake
  lines hs := h'.lines (h.awake hs) ∘ h.lines hs

theorem Abides.after (h' : Abides t u) (h : Abides s t) : Abides s u := h.trans h'

/-- Of the modes and the lines a state need only be told that is awake before. -/
theorem Abides.of_awake (hg : List.Forall₂ StaysBelow s.gens t.gens) (h : Awake s → Abides s t) : Abides s t :=
  ⟨hg, fun hs => (h hs).awake hs, fun hs => (h hs).lines hs⟩

/-! ### What moves nothing that the modes and the lines look at -/

/-- From `s` to `t` nothing moves that the modes and the lines look at: the Mode Controller, whether a survey is under
way, a reset, showroom mode, and of each board its line, its stuck flag and whether it is in use. -/
structure Unmoved (s t : State) : Prop where
  ctl : t.ctl = s.ctl
  survey : t.survey.state = .idle ↔ s.survey.state = .idle
  resetting : t.resetting = s.resetting
  showroom : t.store.settings.showroom = s.store.settings.showroom
  line : ∀ bd, (t.board bd).line = (s.board bd).line
  stuck : ∀ bd, (t.board bd).stuck = (s.board bd).stuck
  up : ∀ bd, (t.boardLink bd).up = (s.boardLink bd).up

theorem Unmoved.awake (h : Unmoved s t) (hs : Awake s) : Awake t := hs.of_eq h.ctl h.survey h.resetting

theorem Unmoved.wanted (h : Unmoved s t) (bd : Board) : t.lineWanted bd = s.lineWanted bd := by
  simp only [State.lineWanted, h.ctl, h.showroom, h.stuck, h.up]

theorem Unmoved.lines (h : Unmoved s t) (hs : LinesFollow s) : LinesFollow t :=
  linesFollow_iff.2 fun bd => by rw [h.line, h.wanted]; exact linesFollow_iff.1 hs bd

theorem Unmoved.abides (h : Unmoved s t) (hg : List.Forall₂ StaysBelow s.gens t.gens) : Abides s t :=
  ⟨hg, h.awake, fun _ => h.lines⟩

/-- Where the Mode Controller, the survey, the settings, the boards and their links stand. -/
theorem Unmoved.of_eq (hc : t.ctl = s.ctl := by simp) (hv : t.survey = s.survey := by simp)
    (hr : t.resetting = s.resetting := by simp)
    (hw : t.store.settings.showroom = s.store.settings.showroom := by simp)
    (ha : t.boardA = s.boardA := by simp) (hb : t.boardB = s.boardB := by simp)
    (hla : t.links.genA = s.links.genA := by simp) (hlb : t.links.genB = s.links.genB := by simp) : Unmoved s t where
  ctl := hc
  survey := by rw [hv]
  resetting := hr
  showroom := hw
  line bd := by rw [State.board_congr ha hb]
  stuck bd := by rw [State.board_congr ha hb]
  up bd := by cases bd <;> simp only [State.boardLink, State.link, boardLinkId, hla, hlb]

/-- Where besides them the generators stand. -/
theorem Abides.of_eq (hg : t.gens = s.gens := by simp) (hc : t.ctl = s.ctl := by simp)
    (hv : t.survey = s.survey := by simp) (hr : t.resetting = s.resetting := by simp)
    (hw : t.store.settings.showroom = s.store.settings.showroom := by simp)
    (ha : t.boardA = s.boardA := by simp) (hb : t.boardB = s.boardB := by simp)
    (hla : t.links.genA = s.links.genA := by simp) (hlb : t.links.genB = s.links.genB := by simp) : Abides s t :=
  (Unmoved.of_eq hc hv hr hw ha hb hla hlb).abides (forall₂_of_eq .refl hg)

/-- Where besides them the residues stay below one slot's energy. -/
theorem Abides.of_gens (hg : List.Forall₂ StaysBelow s.gens t.gens) (hc : t.ctl = s.ctl := by simp)
    (hv : t.survey = s.survey := by simp) (hr : t.resetting = s.resetting := by simp)
    (hw : t.store.settings.showroom = s.store.settings.showroom := by simp)
    (ha : t.boardA = s.boardA := by simp) (hb : t.boardB = s.boardB := by simp)
    (hla : t.links.genA = s.links.genA := by simp) (hlb : t.links.genB = s.links.genB := by simp) : Abides s t :=
  (Unmoved.of_eq hc hv hr hw ha hb hla hlb).abides hg

/-- The survey moves, and stays under way or at rest. -/
theorem Abides.of_survey {v : Survey} (hv : v.state = .idle ↔ s.survey.state = .idle) :
    Abides s { s with survey := v } :=
  Unmoved.abides ⟨rfl, hv, rfl, rfl, fun bd => by cases bd <;> rfl, fun bd => by cases bd <;> rfl,
    fun bd => by cases bd <;> rfl⟩ (forall₂_of_eq .refl rfl)

/-- The mode changes, and is not ACTIVE before or after; the boards' lines stand. -/
theorem Abides.of_mode (h : Awake s → Awake t) (hs : Awake s → s.ctl.mode ≠ .active) (ht : t.ctl.mode ≠ .active)
    (hg : t.gens = s.gens := by simp) (ha : t.boardA = s.boardA := by simp) (hb : t.boardB = s.boardB := by simp) :
    Abides s t where
  gens := forall₂_of_eq .refl hg
  awake := h
  lines hw hl := linesFollow_of_down ht fun bd => by
    rw [State.board_congr ha hb, linesFollow_iff.1 hl bd, State.lineWanted_outside (hs hw)]

end

/-! ### The links of the boards -/

section
variable (s : State)

@[simp] theorem State.captureAll_genA (es : List Event) : (s.captureAll es).links.genA = s.links.genA := by
  have h : ∀ l, (s.captureAll es).link l = s.link l := by simp
  exact h .genA

@[simp] theorem State.captureAll_genB (es : List Event) : (s.captureAll es).links.genB = s.links.genB := by
  have h : ∀ l, (s.captureAll es).link l = s.link l := by simp
  exact h .genB

@[simp] theorem State.capture_genA (e : Event) : (s.capture e).links.genA = s.links.genA := rfl
@[simp] theorem State.capture_genB (e : Event) : (s.capture e).links.genB = s.links.genB := rfl
@[simp] theorem State.setMode_genA (m : Mode) : (s.setMode m).links.genA = s.links.genA := rfl
@[simp] theorem State.setMode_genB (m : Mode) : (s.setMode m).links.genB = s.links.genB := rfl

@[simp] theorem State.modPartner_genA (p : Partner) (f : PartnerRec → PartnerRec) :
    (s.modPartner p f).links.genA = s.links.genA := by cases p <;> rfl
@[simp] theorem State.modPartner_genB (p : Partner) (f : PartnerRec → PartnerRec) :
    (s.modPartner p f).links.genB = s.links.genB := by cases p <;> rfl

@[simp] theorem State.modPartnerLink_genA (p : Partner) (f : LinkRec → LinkRec) :
    (s.modLink (partnerLink p) f).links.genA = s.links.genA := by cases p <;> rfl
@[simp] theorem State.modPartnerLink_genB (p : Partner) (f : LinkRec → LinkRec) :
    (s.modLink (partnerLink p) f).links.genB = s.links.genB := by cases p <;> rfl

/-! ### Records that are rewritten -/

theorem State.elapse_abides (dt : Nat) : Abides s (s.elapse dt) := .of_eq

theorem State.elapseTo_abides (t : Nat) : Abides s (s.elapseTo t) := .of_eq

theorem State.capture_abides (e : Event) : Abides s (s.capture e) := .of_eq

theorem State.captureAll_abides (es : List Event) : Abides s (s.captureAll es) := .of_eq

theorem State.modPhase_abides (ph : Phase) (f : PhaseRec → PhaseRec) : Abides s (s.modPhase ph f) := .of_eq

theorem State.modFrame_abides (f : FrameRec → FrameRec) : Abides s (s.modFrame f) := .of_eq

theorem State.modPartner_abides (p : Partner) (f : PartnerRec → PartnerRec) : Abides s (s.modPartner p f) := .of_eq

theorem State.dequeue_abides (p : Partner) (rest : List Frame) : Abides s (s.dequeue p rest) := .of_eq

theorem State.respond_abides (p : Partner) (place : Nat) (tag : Byte) (payload : List Byte) :
    Abides s (s.respond p place tag payload) := s.modPartner_abides p _

theorem State.mapGens_abides {f : Nat → Gen → Gen} (hf : ∀ g x, StaysBelow x (f g x)) : Abides s (s.mapGens f) :=
  .of_gens (s.mapGens_forall₂ fun g x _ => hf g x)

/-- A link that stays in use, or out of use. -/
theorem State.modLink_abides (l : Link) {f : LinkRec → LinkRec} (hf : (f (s.link l)).state.up = (s.link l).state.up) :
    Abides s (s.modLink l f) := by
  refine Unmoved.abides ⟨by simp, by simp, by simp, by simp, fun bd => ?_, fun bd => ?_, fun bd => ?_⟩
    (forall₂_of_eq .refl (by simp))
  · rw [State.board_congr (s := s) (by simp) (by simp)]
  · rw [State.board_congr (s := s) (by simp) (by simp)]
  · by_cases h : boardLinkId bd = l
    · subst h; simpa [State.boardLink] using hf
    · rw [State.boardLink, State.link_modLink_ne s f h]; rfl

/-- A board's record, its line and its stuck flag standing. -/
theorem State.modBoard_abides (bd : Board) {f : BoardRec → BoardRec}
    (hf : ∀ r, (f r).line = r.line ∧ (f r).stuck = r.stuck) : Abides s (s.modBoard bd f) := by
  have hboard : ∀ q, ((s.modBoard bd f).board q).line = (s.board q).line ∧
      ((s.modBoard bd f).board q).stuck = (s.board q).stuck := fun q => by
    by_cases h : q = bd
    · subst h; rw [State.board_modBoard]; exact hf _
    · rw [State.board_modBoard_ne _ _ h]; exact ⟨rfl, rfl⟩
  exact Unmoved.abides ⟨by simp, by simp, by simp, by simp, fun q => (hboard q).1, fun q => (hboard q).2,
    fun q => by rw [State.boardLink_congr (s := s) (by simp)]⟩ (forall₂_of_eq .refl (by simp))

end

end Sys2Proof.Machine
end

section
/-! PROOFS. The operations inside the blocks, in that relation: the survey and the modes, the frame start, the tracking
point, the route and the boards. -/

namespace Sys2Proof.Machine

open Sys2Proof.Safety

section
variable {s u : State}

/-! ### Lines judged anew (R105) -/

/-- A line is judged, after a change that the other line does not look at. -/
theorem Abides.of_judgeLine {bd : Board} (hg : List.Forall₂ StaysBelow s.gens u.gens)
    (hb : ∀ q, q ≠ bd → u.board q = s.board q) (hl : ∀ q, q ≠ bd → u.boardLink q = s.boardLink q)
    (hc : u.ctl = s.ctl := by simp) (hv : u.survey = s.survey := by simp) (hr : u.resetting = s.resetting := by simp)
    (hw : u.store.settings = s.store.settings := by simp) : Abides s (u.judgeLine bd) where
  gens := by simpa using hg
  awake hs := hs.of_eq (by simpa using hc) (by simp [hv]) (by simpa using hr)
  lines _ hs := linesFollow_iff.2 fun q => by
    by_cases h : q = bd
    · subst h; simp
    · rw [State.judgeLine_board_ne _ h, State.judgeLine_lineWanted, hb q h,
        State.lineWanted_congr (s := s) (by rw [hc]) (by rw [hw]) q (hl q h) (by rw [hb q h])]
      exact linesFollow_iff.1 hs q

/-- Both lines are judged, after whatever change. -/
theorem Abides.of_judgeLines (hg : List.Forall₂ StaysBelow s.gens u.gens) (h : Awake s → Awake u) :
    Abides s u.judgeLines where
  gens := by simpa using hg
  awake hs := (h hs).of_eq
  lines _ _ := u.judgeLines_follow

/-! ### The survey and the modes (R138, R152 to R155) -/

theorem Survey.takeSample_idle (st : Settings) (now c x baseline : Nat) (v : Survey) :
    (v.takeSample st now c x baseline).state = .idle ↔ v.state = .idle := by
  unfold Survey.takeSample
  split
  · exact .rfl
  · rename_i h; split <;> simp [h, Survey.suspend]
  · exact .rfl

theorem Survey.handCoils_idle_iff (st : Settings) (now : Nat) (baseline : Nat → Nat) (handed : Nat → Option Nat)
    (l : List Nat) (v : Survey) :
    (l.foldl (Survey.handCoil st now baseline handed) v).state = .idle ↔ v.state = .idle := by
  induction l generalizing v with
  | nil => exact .rfl
  | cons c rest ih =>
    rw [List.foldl_cons, ih]
    unfold Survey.handCoil
    split
    · exact .rfl
    · exact v.takeSample_idle _ _ _ _ _

theorem Survey.takeSuspend_idle (now : Nat) (v : Survey) : (v.takeSuspend now).state = .idle ↔ v.state = .idle := by
  unfold Survey.takeSuspend
  split <;> simp_all [Survey.suspend]

variable (s)

/-- No survey is under way, the device is outside ACTIVE, and the START timer is stopped. -/
structure Dormant (s : State) : Prop where
  survey : s.survey.state = .idle
  mode : s.ctl.mode ≠ .active
  startTimer : s.ctl.startTimer = none

variable {s} in
/-- Such a device changes to a mode other than ACTIVE and SURVEY. -/
theorem Dormant.setMode (h : Dormant s) {m : Mode} (hna : m ≠ .active) (hns : m ≠ .survey) : Abides s (s.setMode m) :=
  .of_mode (fun hs => .of_rest (by simpa using hns) (by simpa using h.survey) (by simpa using h.startTimer)
    (by simpa using hs.resetting)) (fun _ => h.mode) (by simpa using hna)

/-- R155: a survey under way is that of SURVEY, which its abort leaves for STANDBY. -/
theorem State.abortSurvey_abides (o : SurveyOutcome) : Abides s (s.abortSurvey o) := by
  unfold State.abortSurvey
  split
  · exact .refl
  · rename_i hv
    refine .of_mode (fun hs => .of_rest (by simp) (by simp [Survey.drop]) ?_ (by simpa using hs.resetting))
      (fun hs => by simp [hs.survey hv]) (by simp)
    simpa using hs.startTimer (by simp [hs.survey hv])

/-- R138: START is left for STANDBY with its timer stopped. -/
theorem State.judgeStart_abides : Abides s s.judgeStart := by
  unfold State.judgeStart State.startDone
  split
  · rename_i h
    have hm : s.ctl.mode = .start := by simp at h; exact h.1.1.1
    refine .of_mode (fun hs => .of_rest (by simp) ?_ rfl (by simpa using hs.resetting)) (fun _ => by simp [hm])
      (by simp)
    simpa using hs.idle (by simp [hm])
  · exact .refl

/-- R16: an intake hands its samples to a survey under way, and neither begins nor ends one. -/
theorem State.intake_abides (reading : Nat → Option Reading) : Abides s (s.intake reading) := by
  have hv : (s.intake reading).survey.state = .idle ↔ s.survey.state = .idle := by
    rw [State.intake_survey]; exact Survey.handCoils_idle_iff _ _ _ _ _ _
  refine (Abides.of_survey hv).trans (.of_eq (hla := ?_) (hlb := ?_))
  all_goals simp [State.intake]

/-- R152: the completion of a survey leaves SURVEY for STANDBY. -/
theorem State.completeSurvey_abides (hv : s.survey.state ≠ .idle) : Abides s s.completeSurvey := by
  refine .of_mode (fun hs => .of_rest (by simp [State.completeSurvey]) rfl ?_ (by simpa using hs.resetting))
    (fun hs => by simp [hs.survey hv]) (by simp [State.completeSurvey])
  simpa using hs.startTimer (by simp [hs.survey hv])

theorem State.countFrame_abides : Abides s s.countFrame := by
  unfold State.countFrame
  split
  · exact .of_survey .rfl
  · exact .refl

theorem State.countFrame_state : s.countFrame.survey.state = s.survey.state := by
  unfold State.countFrame; split <;> rfl

theorem State.surveyClose_abides : Abides s s.surveyClose := by
  unfold State.surveyClose State.closeRunning
  dsimp only
  split
  · exact .refl
  · rename_i h
    refine s.countFrame_abides.trans ?_
    split
    · exact State.completeSurvey_abides _ (by rw [State.countFrame_state, h]; decide)
    · exact .of_survey .rfl
  · rename_i h
    rw [State.closeSuspended_eq]
    refine .of_survey ?_
    generalize (if s.frameClear then min 2 (s.survey.clear + 1) else 0) = clear
    split <;> simp [h]

/-! ### The frame start (R12, R30, R116, R130) -/

theorem State.startPhases_abides : Abides s s.startPhases :=
  (State.captureAll_abides _ _).after .of_eq

theorem State.intakeAndClose_abides : Abides s s.intakeAndClose := by
  unfold State.intakeAndClose State.showroomIntake
  (repeat' split)
  · exact s.intake_abides _
  · exact s.surveyClose_abides.trans (State.intake_abides _ _)
  · exact (s.intake_abides _).trans (State.surveyClose_abides _)
  · exact s.surveyClose_abides

theorem State.shareComputation_abides : Abides s s.shareComputation := by
  refine .of_gens s.shareComputation_below (hla := ?_) (hlb := ?_)
  all_goals simp [State.shareComputation]

theorem State.frameStart_abides : Abides s s.frameStart :=
  (s.startPhases_abides.trans (State.intakeAndClose_abides _)).trans (State.shareComputation_abides _)

theorem State.freeFrame_abides : Abides s s.freeFrame := (s.modFrame_abides _).trans (State.frameStart_abides _)

theorem State.syncedFrame_abides : Abides s s.syncedFrame := (s.modFrame_abides _).trans (State.frameStart_abides _)

theorem State.freeExpired_abides : Abides s s.freeExpired := by
  unfold State.freeExpired
  split
  · exact s.modFrame_abides _
  · exact s.freeFrame_abides

/-! ### The tracking point (R35, R77, R83, R84) -/

theorem Abides.foldl {α : Type} {f : State → α → State} (h : ∀ t a, Abides t (f t a)) (l : List α) (s : State) :
    Abides s (l.foldl f s) := by
  induction l generalizing s with
  | nil => exact .refl
  | cons a rest ih => exact (h s a).trans (ih _)

theorem State.liftPan_abides (p : Pan) : Abides s (s.liftPan p) := by
  refine .of_eq (hla := ?_) (hlb := ?_)
  all_goals unfold State.liftPan; dsimp only; split <;> rfl

theorem State.passPan_abides (attr : List (Option Nat)) (p : Pan) : Abides s (s.passPan attr p) := by
  unfold State.passPan State.notFound
  dsimp only
  (repeat' split)
  · exact .of_eq
  · exact s.liftPan_abides p
  · exact s.liftPan_abides p
  · exact .of_eq
  · exact s.liftPan_abides p
  · exact .of_eq
  · exact (State.captureAll_abides _ _).after .of_eq

theorem State.recallCheck_abides (n : Nat) : Abides s (s.recallCheck n) := by
  refine .of_eq (hla := ?_) (hlb := ?_)
  all_goals unfold State.recallCheck; (repeat' split) <;> rfl

theorem State.claim_abides (coils : List Nat) : Abides s (s.claim coils) := by
  unfold State.claim; split <;> exact .of_eq

theorem State.trackingPass_abides : Abides s s.trackingPass := by
  have hlast : ∀ t : State, Abides t t.rewriteCoilPans.judgeAutoOff := fun _ => .of_eq
  rw [State.trackingPass_eq]
  refine Abides.trans ?_ (hlast _)
  exact ((Abides.foldl (fun t p => t.passPan_abides _ p) _ _).trans
    (.foldl State.recallCheck_abides _ _)).trans (.foldl State.claim_abides _ _)

theorem State.openImage_abides : Abides s s.openImage :=
  .of_gens (forall₂_map_self fun _ _ => .of_eq rfl rfl)

theorem State.sendStopOrder_below (wait : List Nat) (bd : Board) :
    List.Forall₂ StaysBelow s.gens (s.sendStopOrder wait bd).gens := by
  unfold State.sendStopOrder
  dsimp only
  split
  · exact forall₂_of_eq .refl rfl
  · rw [State.emit_gens]
    exact s.mapGens_forall₂ fun g x _ => by split <;> exact .of_eq rfl rfl

theorem State.tryOperation_abides : Abides s s.tryOperation := by
  have hmark : ∀ changed : List Nat, List.Forall₂ StaysBelow s.gens
      (s.mapGens fun g x => if changed.contains g then { x with inOperation := true } else x).gens := fun changed =>
    s.mapGens_forall₂ fun g x _ => by split <;> exact .of_eq rfl rfl
  refine .of_gens ?_
  unfold State.tryOperation
  dsimp only
  split
  · rw [apply_ite State.gens, State.beginTransfer_gens, ite_self]
    refine gens_trans ?_ (gens_trans (State.sendStopOrder_below _ _ .a) (State.sendStopOrder_below _ _ .b))
    exact hmark _
  · exact forall₂_of_eq .refl rfl

theorem State.assignment_abides : Abides s s.assignment := by
  refine .of_gens ?_ (hla := by simp [State.assignment]) (hlb := by simp [State.assignment])
  have hg : s.assignment.gens = (s.mapGens fun g x => { x with pan := servedBy s.newServing g }).gens := by
    simp [State.assignment, State.mapGens]
  rw [hg]; exact s.mapGens_forall₂ fun _ _ _ => .of_eq rfl rfl

theorem State.routeTracking_abides : Abides s s.routeTracking := by
  unfold State.routeTracking State.openAndRoute
  split
  · exact s.assignment_abides.trans (State.tryOperation_abides _)
  · exact .refl
  all_goals exact s.openImage_abides.trans (State.tryOperation_abides _)

theorem State.trackingPoint_abides : Abides s s.trackingPoint :=
  ((State.trackingPass_abides _).after .of_eq).trans (State.routeTracking_abides _)

theorem State.trackExpired_abides : Abides s s.trackExpired :=
  (s.modFrame_abides _).trans (State.trackingPoint_abides _)

theorem State.withRoute_abides (r : Route) : Abides s { s with route := r } := .of_eq

theorem State.settleExpired_abides : Abides s s.settleExpired := by
  unfold State.settleExpired
  dsimp only
  refine ((s.mapGens_abides fun g x => ?_).trans (State.withRoute_abides _ _)).trans (State.tryOperation_abides _)
  split <;> exact .of_eq rfl rfl

end

end Sys2Proof.Machine
end

section
/-! PROOFS. The same of the leaving of ACTIVE, the entry to HALT, the chain, the boards and the mains. -/

namespace Sys2Proof.Machine

open Sys2Proof.Safety

section
variable (s : State)

/-! ### The leaving of ACTIVE (R143) -/

theorem State.leaveBoard_below (bd : Board) : List.Forall₂ StaysBelow s.gens (s.leaveBoard bd).gens := by
  unfold State.leaveBoard
  split
  · exact s.mapGens_forall₂ fun g x _ => by split <;> [exact x.freeFault_below; exact .refl x]
  · exact forall₂_of_eq .refl (by simp)

theorem State.left_below (m : Mode) : List.Forall₂ StaysBelow s.gens (s.left m).gens := by
  have hopen : List.Forall₂ StaysBelow s.gens (s.setMode m).leaveLevels.openImage.gens :=
    forall₂_map_self (l := s.gens) fun _ _ => .of_eq rfl rfl
  have hleave : ∀ t : State, List.Forall₂ StaysBelow t.gens (t.mapGens (fun _ x => x.leave)).judgeLines.gens :=
    fun t => by simpa using t.mapGens_forall₂ (f := fun _ x => x.leave) fun _ _ _ => .of_eq rfl rfl
  exact gens_trans hopen
    (gens_trans (hleave _) (gens_trans (State.leaveBoard_below _ .a) (State.leaveBoard_below _ .b)))

theorem State.left_survey (m : Mode) : (s.left m).survey = s.survey := by simp [State.left]

theorem State.left_resetting (m : Mode) : (s.left m).resetting = s.resetting := by simp [State.left]

theorem lineDropped_line (now : Nat) (r : BoardRec) : (lineDropped now r).line = false := by
  unfold lineDropped; split <;> simp_all

variable {s} in
/-- R105, R143: ACTIVE is left with both lines down. -/
theorem State.left_abides {m : Mode} (hm : s.ctl.mode = .active) (hna : m ≠ .active) (hns : m ≠ .survey) :
    Abides s (s.left m) where
  gens := s.left_below m
  awake hs := by
    refine .of_rest (by simpa using hns) ?_ ?_ ?_
    · rw [State.left_survey]; exact hs.idle (by simp [hm])
    · rw [State.left_ctl]; exact hs.startTimer (by simp [hm])
    · rw [State.left_resetting]; exact hs.resetting
  lines _ _ := linesFollow_of_down (by simpa using hna) fun bd => by
    rw [State.left_board s hna]; exact lineDropped_line _ _

theorem State.leaveForStandby_abides : Abides s s.leaveForStandby := by
  unfold State.leaveForStandby
  split
  · rename_i hm
    rw [State.leaveActive_standby]
    exact (State.left_abides hm (by decide) (by decide)).trans (State.tryOperation_abides _)
  · exact .refl

/-! ### The entry to HALT (R91, R145) -/

theorem State.modeToHalt_below : List.Forall₂ StaysBelow s.gens s.modeToHalt.gens := by
  unfold State.modeToHalt
  split
  · rw [State.leaveActive_halt]; exact s.left_below .halt
  all_goals exact forall₂_of_eq .refl (by simp)

/-- R145: in HALT no survey is under way, whatever the mode before. -/
theorem State.modeToHalt_idle (hs : Awake s) : s.modeToHalt.survey.state = .idle := by
  unfold State.modeToHalt
  split <;> rename_i hm
  · rw [State.leaveActive_halt, State.left_survey]; exact hs.idle (by simp [hm])
  · exact hs.idle (by simp [hm])
  · unfold State.abandonSurvey; split <;> [assumption; rfl]
  · exact hs.idle (by simp [hm])
  · exact hs.idle (by simp [hm])

theorem State.routeHalt_abides : Abides s s.routeHalt := by
  refine .of_gens ?_
  unfold State.routeHalt
  split
  · exact forall₂_of_eq .refl rfl
  · simp only [State.tryHaltShift_frame, State.openImage, List.map_map]
    exact forall₂_map_self fun _ _ => .of_eq rfl rfl

theorem State.enterHalt_abides (cause : HaltCause) : Abides s (s.enterHalt cause) := by
  by_cases hm : s.ctl.mode = .halt
  · rw [State.enterHalt, if_pos hm]; exact .refl
  rw [State.enterHalt_eq hm]
  refine Abides.trans (.of_judgeLines ?_ fun hs => ?_) (State.routeHalt_abides _)
  · exact s.modeToHalt_below
  · have hctl := State.modeToHalt_ctl hm
    refine .of_rest ?_ (s.modeToHalt_idle hs) ?_ ?_
    · simp [State.halted, State.capture_eq, hctl]
    · show s.modeToHalt.ctl.startTimer = none
      rw [hctl]
      split_ifs with hstart
      · rfl
      · exact hs.startTimer hstart
    · simpa [State.halted] using hs.resetting

/-! ### The chain (R87, R88, R91) -/

theorem State.latch_abides (image : List (Option Nat)) : Abides s (s.latch image) :=
  .of_gens (by rw [State.latch_gens]; exact s.mapGens_forall₂ fun _ _ _ => .of_eq rfl rfl)

theorem State.transferred_abides : Abides s s.transferred := by
  have hrouting : ∀ t : State, Abides t t.routeChanged := fun t =>
    t.mapGens_abides fun _ _ => by split <;> exact .of_eq rfl rfl
  exact ((s.latch_abides _).trans (hrouting _)).trans (State.withRoute_abides _ _)

theorem State.beginSettle_abides : Abides s s.beginSettle := .of_eq

theorem State.transferComplete_abides (readback : ChainWord) : Abides s (s.transferComplete readback) := by
  unfold State.transferComplete
  dsimp only
  split
  · exact s.transferred_abides.trans (State.enterHalt_abides _ _)
  · exact s.transferred_abides.trans (State.beginSettle_abides _)

theorem State.haltShiftComplete_abides : Abides s s.haltShiftComplete :=
  (s.latch_abides _).trans (State.withRoute_abides _ _)

/-! ### The boards' generators (R98, R101 to R107) -/

theorem State.takeGenFields_abides (bd : Board) (r : BoardReport) : Abides s (s.takeGenFields bd r) :=
  (s.mapGens_abides fun _ x => by split <;> [exact takeGenReport_below _ _ x; exact .refl x]).trans
    (State.captureAll_abides _ _)

theorem State.takeValues_abides (bd : Board) (r : BoardReport) : Abides s (s.takeValues bd r) := by
  have hrest : ∀ t : State, Abides t (((t.modPhase (boardPhase bd) (PhaseRec.takeVoltage r.voltage)).takeGenFields bd
      r).modBoard bd fun x => { x with lastReport := some r }) := fun t =>
    ((t.modPhase_abides _ _).trans (State.takeGenFields_abides _ bd r)).trans
      (State.modBoard_abides _ bd fun _ => ⟨rfl, rfl⟩)
  unfold State.takeValues
  dsimp only
  split
  · exact hrest _
  · exact (s.intake_abides _).trans (hrest _)

theorem State.takeReport_abides (bd : Board) (r : BoardReport) : Abides s (s.takeReport bd r) := by
  rw [State.takeReport_eq]
  split
  · exact (s.enterHalt_abides _).trans (State.takeValues_abides _ bd r)
  · exact s.takeValues_abides bd r

theorem State.reportFrame_abides (bd : Board) (f : Frame) : Abides s (s.reportFrame bd f) := by
  have hheld : ∀ x, Abides s (s.modBoard bd fun r => { r with held := x }) := fun _ =>
    s.modBoard_abides bd fun _ => ⟨rfl, rfl⟩
  unfold State.reportFrame
  dsimp only
  (repeat' split)
  · exact hheld _
  · exact hheld _
  · exact (hheld _).trans (State.takeReport_abides _ bd _)
  · exact hheld _
  · exact .refl

theorem State.reportStopped_abides (l : List Nat) : Abides s (s.reportStopped l) := .of_eq

theorem State.confirmGens_abides (l : List Nat) : Abides s (s.confirmGens l) := by
  refine Abides.trans (s.mapGens_abides fun _ x => ?_) (State.reportStopped_abides _ _)
  split
  · exact confirmStop_below x
  · exact .refl x

/-- The stuck flag of a board moves, and its line is judged. -/
theorem State.judgeStuck_abides (bd : Board) (f : BoardRec → BoardRec) : Abides s ((s.modBoard bd f).judgeLine bd) :=
  .of_judgeLine (forall₂_of_eq .refl (by simp)) (fun _ hq => s.board_modBoard_ne f hq)
    fun q _ => State.boardLink_congr (by simp) q

theorem State.stopConfirmed_abides (bd : Board) (named : List Nat) : Abides s (s.stopConfirmed bd named) := by
  have hgens := s.confirmGens_abides named
  unfold State.stopConfirmed
  dsimp only
  split
  · exact hgens.trans (State.judgeStuck_abides _ bd _)
  · exact hgens

theorem State.helloFrame_abides (bd : Board) (f : Frame) : Abides s (s.helloFrame bd f) := by
  unfold State.helloFrame; split <;> [exact s.stopConfirmed_abides _ _; exact .refl]

theorem State.confirmFrame_abides (bd : Board) (f : Frame) : Abides s (s.confirmFrame bd f) := by
  unfold State.confirmFrame; split <;> [exact s.stopConfirmed_abides _ _; exact .refl]

theorem State.modGen_abides (g : Nat) {f : Gen → Gen} (hf : ∀ x, StaysBelow x (f x)) : Abides s (s.modGen g f) :=
  s.mapGens_abides fun _ x => by split <;> [exact hf x; exact .refl x]

theorem State.stopExpired_abides (g : Nat) : Abides s (s.stopExpired g) := by
  have hgen : ∀ t : State, Abides t (t.modGen g fun x => { x with stopTimer := none, unconfirmed := true }) := fun t =>
    t.modGen_abides g fun _ => .of_eq rfl rfl
  unfold State.stopExpired
  dsimp only
  split
  · exact hgen _
  · exact (s.judgeStuck_abides _ _).trans (hgen _)

theorem State.settleBoard_abides (bd : Board) : Abides s (s.settleBoard bd) := by
  unfold State.settleBoard
  refine ((s.modBoard_abides bd ?_).trans (State.mapGens_abides _ fun g x => ?_)).trans (State.captureAll_abides _ _)
  · exact fun _ => ⟨rfl, rfl⟩
  · unfold settledGen
    (repeat' split)
    · exact settleGenAfterLeave_below x
    · exact settleGen_below x
    · exact .refl x

theorem State.tryHaltShift_abides : Abides s s.tryHaltShift := .of_eq

theorem State.lineSettled_abides (bd : Board) : Abides s (s.lineSettled bd) := by
  rw [State.lineSettled_eq]
  exact ((s.settleBoard_abides bd).trans (State.reportStopped_abides _ _)).trans (State.tryHaltShift_abides _)

/-! ### The loss and the return of a board (R94, R96, R110, R138) -/

theorem boardLinkId_inj {bd q : Board} : boardLinkId q = boardLinkId bd ↔ q = bd := by
  cases bd <;> cases q <;> simp [boardLinkId]

/-- A change of one board's link is not seen at the other. -/
theorem State.boardLink_modLink_ne {bd q : Board} (f : LinkRec → LinkRec) (h : q ≠ bd) :
    (s.modLink (boardLinkId bd) f).boardLink q = s.boardLink q := by
  rw [State.boardLink, State.link_modLink_ne _ _ (fun he => h (boardLinkId_inj.1 he))]; rfl

/-- A board's link and record move, and its line is judged. -/
theorem State.judgeLinked_abides {bd : Board} {f : LinkRec → LinkRec} {k : BoardRec → BoardRec} :
    Abides s (((s.modLink (boardLinkId bd) f).modBoard bd k).judgeLine bd) := by
  refine .of_judgeLine (forall₂_of_eq .refl (by simp)) (fun q hq => ?_) fun q hq => ?_
  · rw [State.board_modBoard_ne _ _ hq]; exact State.board_congr (by simp) (by simp) q
  · rw [State.boardLink_congr (State.modBoard_links _ _ _), s.boardLink_modLink_ne _ hq]

theorem State.boardLost_abides (bd : Board) : Abides s (s.boardLost bd) := by
  have hline : Abides s (((s.modLink (boardLinkId bd) fun r =>
      { r with state := .lost, presence := none, queue := [] }).modBoard bd fun r =>
      { r with held := none }).judgeLine bd) :=
    s.judgeLinked_abides
  have hgens : ∀ t : State, Abides t (t.mapGens fun g x => if boardOf g = bd then x.lose else x) := fun t =>
    t.mapGens_abides fun g x => by split <;> [exact x.lose_below; exact .refl x]
  have hrest : ∀ t : State, Abides t
      (((t.clearHalf bd).modPhase (boardPhase bd) PhaseRec.loseVoltage).capture .linkLost) := fun _ => .of_eq
  unfold State.boardLost
  dsimp only
  split
  · exact (hline.trans (hgens _)).trans (hrest _)
  · exact ((hline.trans (hgens _)).trans (hrest _)).trans (State.abortSurvey_abides _ _)

end

end Sys2Proof.Machine
end

section
/-! PROOFS. The same of the boards' presence, the mains, the links and the requests. -/

namespace Sys2Proof.Machine

open Sys2Proof.Safety

section
variable (s : State)

/-! ### The presence of the boards (R94, R96, R138) -/

/-- R96: a board returns, before START is tested: its LOST generators rest, its link is PRESENT, its stuck flag is
clear, and its line is judged. -/
def State.boardBack (bd : Board) (s : State) : State :=
  (((s.mapGens (fun g x => if boardOf g = bd then x.comeBack else x)).modLink (boardLinkId bd)
    (LinkRec.makePresent (boardLinkId bd) s.now)).modBoard bd (fun r => { r with stuck := false })).judgeLine bd

theorem State.boardReturns_eq (bd : Board) : s.boardReturns bd = (s.boardBack bd).judgeStart := by cases bd <;> rfl

theorem State.boardBack_abides (bd : Board) : Abides s (s.boardBack bd) := by
  refine Abides.trans (s.mapGens_abides fun g x => ?_) (State.judgeLinked_abides _)
  split
  · exact x.comeBack_below
  · exact .refl x

theorem State.boardReturns_abides (bd : Board) : Abides s (s.boardReturns bd) := by
  rw [State.boardReturns_eq]; exact (s.boardBack_abides bd).trans (State.judgeStart_abides _)

theorem State.enqueue_abides (l : Link) (f : Frame) : Abides s (s.enqueue l f) := s.modLink_abides l rfl

/-- R94: the presence of a board in use is restarted. -/
theorem State.makePresent_abides {bd : Board} (h : (s.boardLink bd).up = true) (now : Nat) :
    Abides s (s.modLink (boardLinkId bd) (LinkRec.makePresent (boardLinkId bd) now)) :=
  s.modLink_abides _ h.symm

theorem State.boardArrival_abides (bd : Board) (f : Frame) : Abides s (s.boardArrival bd f) := by
  unfold State.boardArrival
  dsimp only
  split
  · rename_i hup
    have hstart := (s.makePresent_abides hup s.now).trans (State.judgeStart_abides _)
    split
    · exact hstart.trans (State.enqueue_abides _ _ _)
    · exact hstart
  · split
    · exact (s.boardReturns_abides bd).trans (State.enqueue_abides _ _ _)
    · exact .refl

theorem State.boardExpiry_abides (bd : Board) : Abides s (s.boardExpiry bd) := by
  unfold State.boardExpiry
  split
  · rename_i hl
    have hlate : Abides s (s.modLink (boardLinkId bd) fun r =>
        { r with state := .late, presence := some (s.now + presenceTime (boardLinkId bd)) }) :=
      s.modLink_abides _ (by rw [show (s.link (boardLinkId bd)).state = .present from hl]; rfl)
    exact (hlate.trans (State.capture_abides _ _)).trans (State.judgeStart_abides _)
  · exact (s.boardLost_abides bd).trans (State.judgeStart_abides _)
  all_goals exact .refl

/-- R110: the loss of a board begins no survey. -/
theorem State.boardLost_idle (bd : Board) (h : s.survey.state = .idle) : (s.boardLost bd).survey.state = .idle := by
  unfold State.boardLost State.abortSurvey
  dsimp only
  (repeat' split)
  · simpa using h
  · simpa using h
  · rfl

/-- R138: a board that is still ABSENT becomes LOST. -/
def State.loseAbsent (bd : Board) (s : State) : State := if s.boardLink bd = .absent then s.boardLost bd else s

theorem State.startExpired_eq :
    s.startExpired = ((s.stopStartTimer.loseAbsent .a).loseAbsent .b).setMode .standby := rfl

theorem State.loseAbsent_abides (bd : Board) : Abides s (s.loseAbsent bd) := by
  unfold State.loseAbsent; split <;> [exact s.boardLost_abides bd; exact .refl]

variable {s} in
theorem Dormant.loseAbsent (h : Dormant s) (bd : Board) : Dormant (s.loseAbsent bd) := by
  unfold State.loseAbsent
  split
  · exact ⟨s.boardLost_idle bd h.survey, (s.boardLost_aside bd).mode h.mode, by simpa using h.startTimer⟩
  · exact h

theorem State.stopStartTimer_abides : Abides s s.stopStartTimer where
  gens := forall₂_of_eq .refl rfl
  awake hs := .of_modes hs.modes.1 (by simp [State.stopStartTimer]) hs.resetting
  lines _ := id

/-- R138: the START timer's expiry is one in START, which it leaves for STANDBY. -/
theorem State.startExpired_abides (ht : s.ctl.startTimer ≠ none) : Abides s s.startExpired := by
  have hlost := (s.stopStartTimer_abides.trans (State.loseAbsent_abides _ .a)).trans (State.loseAbsent_abides _ .b)
  rw [State.startExpired_eq]
  refine .of_awake (by simpa using hlost.gens) fun hs => hlost.trans ?_
  have hm : s.ctl.mode = .start := by by_contra hm; exact ht (hs.startTimer hm)
  have hdormant : Dormant s.stopStartTimer := ⟨hs.idle (by simp [hm]), by simp [hm], rfl⟩
  exact ((hdormant.loseAbsent .a).loseAbsent .b).setMode (by decide) (by decide)

/-! ### The mains (R2 to R9) -/

theorem State.withChoices_abides (n : Nat) : Abides s { s with choices := n } := .of_eq

theorem State.l1Lost_abides : Abides s s.l1Lost := by
  unfold State.l1Lost
  dsimp only
  (repeat' split)
  · exact s.leaveForStandby_abides
  · exact ((s.withChoices_abides _).trans (State.leaveForStandby_abides _)).trans (State.freeFrame_abides _)
  · exact ((s.withChoices_abides _).trans (State.freeFrame_abides _)).trans (State.leaveForStandby_abides _)
  · exact s.freeFrame_abides

theorem State.l1Changed_abides (before : Sync) : Abides s (s.l1Changed before) := by
  unfold State.l1Changed
  (repeat' split)
  · exact s.judgeStart_abides
  · exact s.l1Lost_abides
  · exact .refl

theorem State.edgeExpired_abides (ph : Phase) : Abides s (s.edgeExpired ph) := by
  unfold State.edgeExpired
  cases ph with
  | l1 => exact (s.modPhase_abides .l1 _).trans (State.l1Changed_abides _ _)
  | l2 => exact s.modPhase_abides .l2 _

theorem State.frameEdge_abides : Abides s s.frameEdge := by
  unfold State.frameEdge
  dsimp only
  (repeat' split)
  · exact .refl
  · exact s.syncedFrame_abides
  · exact s.syncedFrame_abides
  · exact (s.modFrame_abides _).trans (State.trackingPoint_abides _)
  · exact s.modFrame_abides _

theorem State.edgeTaken_abides (ph : Phase) : Abides s (s.edgeTaken ph) := by
  unfold State.edgeTaken
  cases ph with
  | l1 =>
    have hchanged := (s.modPhase_abides .l1 (edgeSync s.now)).trans (State.l1Changed_abides _ (s.phase .l1).sync)
    dsimp only
    split
    · exact hchanged.trans (State.frameEdge_abides _)
    · exact hchanged
  | l2 => exact s.modPhase_abides .l2 _

/-! ### The links (R160 to R164) -/

theorem State.endAssembly_abides (l : Link) : Abides s (s.endAssembly l) := s.modLink_abides l rfl

/-- R164: a partner's link is not one that the lines look at. -/
theorem State.partnerArrival_abides (p : Partner) (f : Frame) : Abides s (s.partnerArrival p f) := by
  have hpresent : Abides s (s.modLink (partnerLink p) (LinkRec.makePresent (partnerLink p) s.now)) := .of_eq
  unfold State.partnerArrival
  split
  · exact hpresent.trans (State.enqueue_abides _ _ _)
  · exact .refl

theorem State.frameComplete_abides (l : Link) (f : Frame) : Abides s (s.frameComplete l f) := by
  unfold State.frameComplete
  split
  · exact .refl
  · cases l with
    | panel => exact s.partnerArrival_abides .panel f
    | remote => exact s.partnerArrival_abides .remote f
    | genA => exact s.boardArrival_abides .a f
    | genB => exact s.boardArrival_abides .b f

theorem State.takeByte_abides (l : Link) (byte : Byte) : Abides s (s.takeByte l byte) := by
  have hassemble : ∀ bytes, Abides s (s.assemble l bytes) := fun _ => s.modLink_abides l rfl
  unfold State.takeByte State.frameByte
  dsimp only
  (repeat' split)
  · exact hassemble _
  · exact .refl
  · exact s.endAssembly_abides l
  · exact (s.endAssembly_abides l).trans (State.frameComplete_abides _ _ _)
  · exact s.endAssembly_abides l
  · exact hassemble _

theorem State.partnerExpiry_abides (p : Partner) : Abides s (s.partnerExpiry p) := by
  have hlost : Abides s ((s.modPartner p PartnerRec.lose).capture .linkLost) :=
    (s.modPartner_abides p _).trans (State.capture_abides _ _)
  unfold State.partnerExpiry State.partnerGone
  split
  · exact .of_eq
  · cases p with
    | panel => exact hlost.trans (State.leaveForStandby_abides _)
    | remote => exact hlost.trans .of_eq
  all_goals exact .refl

theorem State.sendNext_abides (p : Partner) : Abides s (s.sendNext p) := by
  have hemit : ∀ (t : State) o, Abides t (t.emit o) := fun _ _ => .of_eq
  unfold State.sendNext
  dsimp only
  (repeat' split)
  · exact s.modPartner_abides p _
  · exact (s.modPartner_abides p _).trans (hemit _ _)
  · exact s.modPartner_abides p _

/-! ### What the requests do (R140, R151, R154, R175) -/

variable {s} in
theorem State.activateVerdict_none (h : s.activateVerdict = none) : s.ctl.mode = .standby := by
  unfold State.activateVerdict at h
  cases hm : s.ctl.mode <;> simp [hm] at h ⊢

variable {s} in
/-- R140: ACTIVE is entered from STANDBY, and both lines are judged. -/
theorem State.enterActive_abides (h : s.activateVerdict = none) : Abides s s.enterActive := by
  have hm := State.activateVerdict_none h
  have hoff : ∀ t : State, Abides t t.judgeAutoOff := fun _ => .of_eq
  refine Abides.trans (.of_judgeLines (forall₂_of_eq .refl (by simp)) fun hs => ?_) (hoff _)
  exact .of_rest (by simp) (by simpa using hs.idle (by simp [hm])) (by simpa using hs.startTimer (by simp [hm]))
    (by simpa using hs.resetting)

variable {s} in
/-- R151: SURVEY is entered from STANDBY as the survey begins. -/
theorem State.startSurvey_abides (h : s.surveyVerdict = none) : Abides s s.startSurvey := by
  have hm := State.surveyVerdict_none h
  refine .of_mode (fun hs => .of_modes ?_ ?_ (by simpa using hs.resetting)) (fun _ => by simp [hm])
    (by simp [State.startSurvey])
  · simp [State.startSurvey, Survey.begin]
  · simpa using fun ht => absurd (hs.startTimer (by simp [hm])) (by simpa [Option.isSome_iff_ne_none] using ht)

/-- R29, R105: a change of showroom mode judges both lines; without one they stand. -/
theorem State.showroomJudged_abides {u : State} {st : Settings} (hst : u.store.settings = st)
    (hu : u = { s with coils := u.coils, store := u.store }) :
    Abides s (if st.showroom = s.store.settings.showroom then u else u.showroomChanged.judgeLines) := by
  obtain ⟨hg, hc, hv, hr⟩ : u.gens = s.gens ∧ u.ctl = s.ctl ∧ u.survey = s.survey ∧ u.resetting = s.resetting := by
    rw [hu]; exact ⟨rfl, rfl, rfl, rfl⟩
  split
  · rename_i hw
    exact .of_eq hg hc hv hr (hst ▸ hw) (by rw [hu]) (by rw [hu]) (by rw [hu]) (by rw [hu])
  · refine .of_judgeLines (forall₂_of_eq .refl (by simpa using hg)) fun hs => ?_
    exact hs.of_eq (by simpa using hc) (by simp [hv]) (by simpa using hr)

theorem State.withRecalls_abides (l : List RecallEntry) : Abides s { s with recalls := l } := .of_eq

/-- R175: the settings of `s` have changed, and nothing but its store besides. -/
theorem State.settingsChanged_abides {u : State} (hu : u = { s with store := u.store }) :
    Abides s (u.settingsChanged s.store.settings) := by
  have hjudged := s.showroomJudged_abides
    (u := if u.store.settings.avgExp = s.store.settings.avgExp then u else u.emptyWindows)
    (st := u.store.settings) (by split <;> rfl) (by split <;> rw [hu]; rfl)
  unfold State.settingsChanged
  dsimp only
  split
  · exact hjudged
  · exact hjudged.trans (State.withRecalls_abides _ _)

theorem State.takeWrite_abides (id v : Nat) (range : Nat × Nat) : Abides s (s.takeWrite id v range).state := by
  rw [State.takeWrite_eq]; exact s.settingsChanged_abides rfl

end

end Sys2Proof.Machine
end

section
/-! PROOFS. Every command and every step: the residues, the modes and the enable lines (R98, R105, R130, R138, R147). -/

namespace Sys2Proof.Machine

open Sys2Proof.Safety

/-- What every command keeps, in a reset and outside one. -/
structure Lawful (s t : State) : Prop where
  residues : ResiduesKept s → ResiduesKept t
  modes : ModesAgree s → ModesAgree t
  lines : ModesAgree s → LinesFollow s → LinesFollow t

section
variable {s t u : State}

theorem Lawful.refl : Lawful s s := ⟨id, id, fun _ => id⟩

theorem Lawful.trans (h : Lawful s t) (h' : Lawful t u) : Lawful s u :=
  ⟨h'.residues ∘ h.residues, h'.modes ∘ h.modes, fun hs => h'.lines (h.modes hs) ∘ h.lines hs⟩

theorem Abides.lawful (h : Abides s t) (hr : s.resetting = none) : Lawful s t where
  residues hs := residuesKept_of_gens hs h.gens
  modes hs := (h.awake ⟨hs, hr⟩).modes
  lines hs := h.lines ⟨hs, hr⟩

theorem Unmoved.lawful (h : Unmoved s t) (hg : t.gens = s.gens) : Lawful s t where
  residues hs := residuesKept_of_gens hs (forall₂_of_eq .refl hg)
  modes hs := by
    obtain ⟨hsurvey, hstart, hreset⟩ := hs
    exact ⟨by rw [h.ctl, ne_eq, h.survey]; exact hsurvey, by rw [h.ctl]; exact hstart,
      by rw [h.ctl, h.resetting]; exact hreset⟩
  lines _ := h.lines

/-- Time passes, in a reset too. -/
theorem State.elapse_lawful (s : State) (dt : Nat) : Lawful s (s.elapse dt) := (Unmoved.of_eq).lawful rfl

theorem State.withPending_lawful (s : State) (rest : List Instr) : Lawful s (s.withPending rest) :=
  Unmoved.lawful (.of_eq rfl rfl rfl rfl rfl rfl rfl rfl) rfl

/-! ### The resets (R115, R147) -/

/-- R115, R147: a reset begins in START with every generator at its reset values and both lines down. -/
theorem State.reset_lawful (s : State) (r : Resetting) : Lawful s (s.toResetValues.withReset r) where
  residues _ g _ := by
    have hgen : (s.toResetValues.withReset r).gen g = Gen.initial := by
      show ((List.replicate 8 Gen.initial)[g]?).getD Gen.initial = _
      rw [List.getElem?_replicate]; split <;> rfl
    rw [hgen]; exact .inl rfl
  modes _ := by simp [ModesAgree, State.withReset, State.toResetValues, Survey.initial]
  lines _ _ := linesFollow_of_down (by simp [State.withReset, State.toResetValues]) fun bd => by cases bd <;> rfl

theorem State.beginReset_lawful (s : State) (cause : ResetCause) : Lawful s (s.beginReset cause) := by
  unfold State.beginReset
  split
  · rename_i r hr
    exact ⟨id, fun ⟨hsurvey, hstart, hreset⟩ => ⟨hsurvey, hstart, fun _ => hreset (by simp [hr])⟩, fun _ => id⟩
  · exact s.reset_lawful _

/-- The state at the end of a reset, before its first free frame (R147). -/
def State.restarted (r : Resetting) (s : State) : State :=
  { s.load.loadLimits.startLineDowns with
    resetting := none
    ctl := s.load.loadLimits.startLineDowns.ctl.afterReset s.load.loadLimits.startLineDowns.now r
      (!s.store.image.passes) }

theorem State.endReset_eq (s : State) (r : Resetting) : s.endReset r = (s.restarted r).freeFrame := rfl

theorem State.restarted_line (s : State) (r : Resetting) (bd : Board) :
    ((s.restarted r).board bd).line = (s.board bd).line := by
  cases bd <;> rfl

/-- R147: a reset ends in START with nothing under way, and both lines as they stood in it: down. -/
theorem State.endReset_lawful {r : Resetting} (hr : s.resetting = some r) : Lawful s (s.endReset r) := by
  have hframe := (s.restarted r).freeFrame_abides
  have hstart : ∀ hs : ModesAgree s, s.ctl.mode = .start ∧ Awake (s.restarted r) := fun ⟨hsurvey, _, hreset⟩ => by
    have hm : s.ctl.mode = .start := hreset (by simp [hr])
    have hidle : s.survey.state = .idle := by simpa [hm] using hsurvey
    exact ⟨hm, .of_modes (by simp [State.restarted, Ctl.afterReset, hidle]) (fun _ => rfl) rfl⟩
  rw [State.endReset_eq]
  refine ⟨fun hs => residuesKept_of_gens hs ?_, fun hs => (hframe.awake (hstart hs).2).modes, fun hs hl => ?_⟩
  · exact gens_trans (m := (s.restarted r).gens) (forall₂_of_eq .refl (by simp [State.restarted])) hframe.gens
  · obtain ⟨hm, hawake⟩ := hstart hs
    refine hframe.lines hawake (linesFollow_of_down (by simp [State.restarted, Ctl.afterReset]) fun bd => ?_)
    rw [State.restarted_line, linesFollow_iff.1 hl bd, State.lineWanted_outside (by simp [hm])]

/-! ### Frames taken and expiries -/

theorem Lawful.unlessReset {f : State → State} (h : s.resetting = none → Abides s (f s)) :
    Lawful s (s.unlessReset f) := State.unlessReset_keeps (Inv := Lawful s) .refl fun hr => (h hr).lawful hr

theorem Abides.expire {f : State → State} {timer : Timer}
    (h : ∀ d, timer = some d → Abides (s.elapseTo d) (f (s.elapseTo d))) : Abides s (s.expire timer f) :=
  State.expire_keeps (Inv := Abides s) .refl fun d hd => (s.elapseTo_abides d).trans (h d hd)

theorem Abides.serve {p : Partner} {req : Request} {body : List Byte → State → Served}
    (h : ∀ b u, Abides u (body b u).state) : Abides s (s.serve p req body) :=
  State.serve_keeps (Inv := Abides s) .refl (fun rest => s.dequeue_abides p rest) (fun b _ hk => hk.trans (h b _))
    fun t k tag bytes hk => hk.trans (t.respond_abides p k tag bytes)

theorem Abides.takePartnerFrame {p : Partner} {want : Byte → Bool} {act : Frame → State → State}
    (h : ∀ f u, Abides u (act f u)) : Abides s (s.takePartnerFrame p want act) := by
  obtain hs | ⟨f, rest, -, -, hs⟩ := s.takePartnerFrame_cases p want act
  · rw [hs]; exact .refl
  · rw [hs]; split <;> [exact s.dequeue_abides p rest; exact (s.dequeue_abides p rest).trans (h f _)]

theorem Abides.takeBoardFrame {bd : Board} {kind : Byte} {act : Frame → State → State}
    (h : ∀ f u, Abides u (act f u)) : Abides s (s.takeBoardFrame bd kind act) := by
  obtain hs | ⟨f, rest, -, -, -, hs⟩ := s.takeBoardFrame_cases bd kind act
  · rw [hs]; exact .refl
  · rw [hs]; exact (s.modLink_abides _ rfl).trans (h f _)

/-! ### Commands -/

/-- The command with the outcome `x` completes lawfully. -/
def Lawfully (s : State) (x : Host.Outcome State Fault Refusal) : Prop := ∃ t, x = .next t ∧ Lawful s t

theorem Lawfully.unlessReset {f : State → State} (h : ∀ s, Abides s (f s)) : Lawfully s (.next (s.unlessReset f)) :=
  ⟨_, rfl, .unlessReset fun _ => h s⟩

theorem Lawfully.expiry {f : State → State} {timer : State → Timer} (h : ∀ u, Abides u (f u)) :
    Lawfully s (.next (s.unlessReset fun t => t.expire (timer t) f)) := .unlessReset fun _ => .expire fun _ _ => h _

theorem Lawfully.serve {p : Partner} {req : Request} {body : List Byte → State → Served}
    (h : ∀ b u, Abides u (body b u).state) : Lawfully s (.next (s.unlessReset (State.serve p req body))) :=
  .unlessReset fun _ => .serve h

/-- A read answers and changes nothing. -/
theorem Lawfully.read {p : Partner} {req : Request} {body : List Byte → State → Served}
    (h : ∀ b u, (body b u).state = u) : Lawfully s (.next (s.unlessReset (State.serve p req body))) :=
  .serve fun b u => by rw [h]; exact .refl

end

section
variable (s : State)

theorem State.withStore_abides {st : Store} (h : st.settings.showroom = s.store.settings.showroom) :
    Abides s { s with store := st } := .of_eq (hw := h)

theorem State.takeLevel_abides (p : Partner) (n level : Nat) : Abides s (s.takeLevel p n level) := .of_eq

theorem State.endPause_abides : Abides s s.endPause := .of_eq (hla := rfl) (hlb := rfl)

theorem State.judgeAutoOff_abides : Abides s s.judgeAutoOff := .of_eq

theorem State.beginPause_abides : Abides s s.beginPause :=
  .of_eq (hla := by simp [State.beginPause]) (hlb := by simp [State.beginPause])

theorem State.takeAllOff_abides (p : Partner) : Abides s (s.takeAllOff p) := by
  have hpans : Abides s (s.mapPans fun q => { q.switchOff with source := partnerSource p }) := .of_eq
  unfold State.takeAllOff
  dsimp only
  split
  · exact (hpans.trans (State.endPause_abides _)).trans (State.judgeAutoOff_abides _)
  · exact hpans.trans (State.judgeAutoOff_abides _)

theorem State.pauseExpired_abides : Abides s s.pauseExpired := by
  have hpans : Abides s (s.mapPans Pan.switchOff) := .of_eq
  exact (hpans.trans (State.endPause_abides _)).trans (State.judgeAutoOff_abides _)

theorem State.takeRow_abides (row : Nat) (values : List Nat) : Abides s (s.takeRow row values).state := by
  unfold State.takeRow
  dsimp only
  split <;> exact s.withStore_abides rfl

theorem State.takeSoftReset_abides (p : Partner) (tag : Byte) : Abides s (s.takeSoftReset p tag) :=
  .of_eq (hla := by simp [State.takeSoftReset]) (hlb := by simp [State.takeSoftReset])

theorem State.storeCompleted_abides (c : Storing) : Abides s (s.storeCompleted c) := .of_eq (hla := rfl) (hlb := rfl)

end

end Sys2Proof.Machine
end

section
/-! PROOFS. Every command by name, and the obligations on the residues, the modes and the lines. -/

namespace Sys2Proof.Machine

open Sys2Proof.Safety

section
variable {s : State}

/-! ### The mains, the resets and the frames -/

theorem execZeroCrossEdge_lawful (ph : Phase) (wait : Nat) : Lawfully s (execZeroCrossEdge ph wait s) := by
  refine ⟨_, rfl, ?_⟩
  split
  · exact s.elapse_lawful wait
  · rename_i hr
    have hlate : Abides s (if s.edgeOverdue ph (s.now + wait) then
        s.expire (s.phase ph).edgeTimer (State.edgeExpired ph) else s) := by
      split
      · exact .expire fun _ _ => State.edgeExpired_abides _ ph
      · exact .refl
    exact ((hlate.trans (State.elapseTo_abides _ _)).trans (State.edgeTaken_abides _ ph)).lawful (by simpa using hr)

theorem execResetEnd_lawful : Lawfully s (execResetEnd s) := by
  refine ⟨_, rfl, ?_⟩
  split
  · exact .refl
  · exact State.endReset_lawful ‹_›

theorem execSoftResetStart_lawful : Lawfully s (execSoftResetStart s) := by
  refine ⟨_, rfl, State.unlessReset_keeps (Inv := Lawful s) .refl fun _ => ?_⟩
  split
  · exact s.beginReset_lawful .softReset
  · exact .refl

theorem execFrameArrival_lawful (l : Link) (kind tag : Byte) (payload : List Byte) :
    Lawfully s (execFrameArrival l kind tag payload s) := by
  refine .unlessReset fun u => ?_
  dsimp only
  split
  · exact (u.endAssembly_abides l).trans (State.frameComplete_abides _ _ _)
  · exact u.endAssembly_abides l

theorem execByteReceived_lawful (l : Link) (byte : Byte) : Lawfully s (execByteReceived l byte s) := by
  refine .unlessReset fun u => ?_
  split
  · exact (u.endAssembly_abides l).trans (State.takeByte_abides _ _ _)
  · exact u.takeByte_abides _ _

/-! ### Requests about events and levels -/

theorem execClearEvents_lawful (p : Partner) : Lawfully s (execClearEvents p s) := by
  refine .serve fun b u => ?_
  split
  · exact .refl
  · dsimp only [accept]; exact u.modPartner_abides p _

theorem execSetEventEnable_lawful (p : Partner) : Lawfully s (execSetEventEnable p s) := by
  refine .serve fun b u => ?_
  split
  · exact .refl
  · dsimp only [accept]; exact u.modPartner_abides p _

theorem execSetLevel_lawful (p : Partner) : Lawfully s (execSetLevel p s) := by
  refine .serve fun b u => ?_
  split
  · exact .refl
  · exact u.takeLevel_abides _ _ _

theorem execAllOff_lawful (p : Partner) : Lawfully s (execAllOff p s) := by
  refine .serve fun b u => ?_
  split
  · exact u.takeAllOff_abides p
  · exact .refl

theorem execSetRemotePermit_lawful (p : Partner) : Lawfully s (execSetRemotePermit p s) := by
  refine .serve fun b u => ?_
  (repeat' split)
  · exact .refl
  · exact .refl
  · dsimp only [accept]; exact .of_eq

theorem execPause_lawful (p : Partner) : Lawfully s (execPause p s) := by
  refine .serve fun b u => ?_
  split
  · exact .refl
  · show Abides u (if u.levels.pause then u else u.beginPause)
    split <;> [exact .refl; exact u.beginPause_abides]

theorem execResume_lawful (p : Partner) : Lawfully s (execResume p s) := by
  refine .serve fun b u => ?_
  split
  · exact .refl
  · show Abides u (if u.levels.pause then u.endPause.judgeAutoOff else u)
    split <;> [exact u.endPause_abides.trans (State.judgeAutoOff_abides _); exact .refl]

/-! ### Requests about the modes and the survey -/

theorem execActivate_lawful (p : Partner) : Lawfully s (execActivate p s) := by
  refine .serve fun b u => ?_
  split
  · exact .refl
  · exact State.enterActive_abides ‹_›

theorem execDeactivate_lawful (p : Partner) : Lawfully s (execDeactivate p s) := by
  refine .serve fun b u => ?_
  split
  · exact u.leaveForStandby_abides
  all_goals exact .refl

theorem execSoftReset_lawful (p : Partner) : Lawfully s (execSoftReset p s) := by
  refine .unlessReset fun _ => .takePartnerFrame fun f u => ?_
  dsimp only
  split
  · exact u.takeSoftReset_abides _ _
  · exact u.respond_abides _ _ _ _

theorem execSurveyStart_lawful (p : Partner) : Lawfully s (execSurveyStart p s) := by
  refine .serve fun b u => ?_
  split
  · exact .refl
  · exact State.startSurvey_abides ‹_›

theorem execSurveySuspend_lawful (p : Partner) : Lawfully s (execSurveySuspend p s) := by
  refine .serve fun b u => ?_
  split
  · exact .refl
  · exact .of_survey (Survey.takeSuspend_idle _ _)

theorem execSurveyResume_lawful (p : Partner) : Lawfully s (execSurveyResume p s) := by
  refine .serve fun b u => ?_
  (repeat' split)
  · exact .refl
  · exact .refl
  · rename_i hsuspended _
    exact .of_survey (by simp [Survey.resume, hsuspended])
  · exact .refl

theorem execSurveyAbort_lawful (p : Partner) : Lawfully s (execSurveyAbort p s) := by
  refine .serve fun b u => ?_
  split
  · exact .refl
  · exact u.abortSurvey_abides _

theorem execWriteShowroomRow_lawful (p : Partner) : Lawfully s (execWriteShowroomRow p s) := by
  refine .serve fun b u => ?_
  (repeat' split)
  · exact .refl
  · exact .refl
  · exact .refl
  · exact u.takeRow_abides _ _

/-! ### Requests about the settings and the store -/

theorem execWriteSetting_lawful (p : Partner) : Lawfully s (execWriteSetting p s) := by
  refine .serve fun b u => ?_
  (repeat' split)
  · exact .refl
  · exact .refl
  · exact .refl
  · exact u.takeWrite_abides _ _ _

theorem execWriteLevelTable_lawful (p : Partner) : Lawfully s (execWriteLevelTable p s) := by
  refine .serve fun b u => ?_
  dsimp only
  (repeat' split)
  · exact .refl
  · exact u.withStore_abides rfl
  · exact .refl

theorem execStoreSettings_lawful (p : Partner) : Lawfully s (execStoreSettings p s) := by
  refine .serve fun b u => ?_
  split
  · exact .refl
  · exact u.withStore_abides rfl

theorem execSetExclusion_lawful (p : Partner) : Lawfully s (execSetExclusion p s) := by
  refine .serve fun b u => ?_
  (repeat' split)
  · exact .refl
  · exact .refl
  · exact .refl
  · exact u.withStore_abides rfl

theorem execLockExclusion_lawful (p : Partner) : Lawfully s (execLockExclusion p s) := by
  refine .serve fun b u => ?_
  split
  · exact .refl
  · exact u.withStore_abides rfl

theorem execStoreComplete_lawful : Lawfully s (execStoreComplete s) := by
  refine .unlessReset fun u => ?_
  split
  · exact .refl
  · exact u.storeCompleted_abides _

/-! ### The chain and the timers of the generators, the recall list and the boosts -/

theorem execChainTransferComplete_lawful (readback : ChainWord) :
    Lawfully s (execChainTransferComplete readback s) := by
  refine .unlessReset fun u => ?_
  (repeat' split)
  · exact u.transferComplete_abides readback
  · exact u.haltShiftComplete_abides
  · exact .refl

theorem execRetryTimerExpiry_lawful (g : Fin 8) : Lawfully s (execRetryTimerExpiry g s) := by
  refine .unlessReset fun u => ?_
  split
  · exact (u.elapseTo_abides _).trans (State.modGen_abides _ _ fun _ => .of_eq rfl rfl)
  · exact .refl
  · exact .refl

theorem execRecallExpiry_lawful (i : Nat) : Lawfully s (execRecallExpiry i s) := by
  refine .unlessReset fun u => ?_
  split
  · exact .refl
  · exact (u.elapseTo_abides _).trans (State.withRecalls_abides _ _)

theorem execBoostExpiry_lawful (n : Nat) : Lawfully s (execBoostExpiry n s) := by
  have hpan : ∀ t : State, Abides t (t.modPan n Pan.endBoost) := fun _ => .of_eq
  refine .unlessReset fun u => ?_
  (repeat' split)
  · exact .refl
  · exact ((u.elapse_abides _).trans (hpan _)).trans (State.capture_abides _ _)
  · exact .refl

theorem execStartTimerExpiry_lawful : Lawfully s (execStartTimerExpiry s) :=
  .unlessReset fun u => .expire fun d hd => State.startExpired_abides _ (by simp [hd])

end

/-! ### Every command and every step -/

theorem exec_lawful (c : Instr) (s : State) : Lawfully s (exec c s) := by
  cases c with
  | zeroCrossEdge ph wait => exact execZeroCrossEdge_lawful ph wait
  | edgeTimerExpiry ph => exact .expiry fun u => u.edgeExpired_abides ph
  | freeFrameExpiry => exact .expiry State.freeExpired_abides
  | trackingTimerExpiry => exact .expiry State.trackExpired_abides
  | powerOn => exact ⟨_, rfl, s.beginReset_lawful .powerOn⟩
  | resetLine => exact ⟨_, rfl, s.beginReset_lawful .resetLine⟩
  | resetEnd => exact execResetEnd_lawful
  | softResetStart => exact execSoftResetStart_lawful
  | frameArrival l kind tag payload => exact execFrameArrival_lawful l kind tag payload
  | byteGapTimeout l => exact .expiry fun u => u.endAssembly_abides l
  | linkPresenceExpiry p => exact .expiry fun u => u.partnerExpiry_abides p
  | boardPresenceExpiry bd => exact .expiry fun u => u.boardExpiry_abides bd
  | sendFrame p => exact .unlessReset fun u => u.sendNext_abides p
  | unknownKind p => exact .unlessReset fun _ => .takePartnerFrame fun _ u => u.respond_abides _ _ _ _
  | hello p => exact .read fun _ _ => rfl
  | readStatus p => exact .read fun _ _ => by (repeat' split) <;> rfl
  | readPans p => exact .read fun _ _ => by dsimp only; split <;> rfl
  | readCoils p => exact .read fun _ _ => by dsimp only; split <;> rfl
  | readGenerators p => exact .read fun _ _ => by (repeat' split) <;> rfl
  | readEvents p => exact .read fun _ _ => rfl
  | clearEvents p => exact execClearEvents_lawful p
  | setEventEnable p => exact execSetEventEnable_lawful p
  | readTable p => exact .read fun _ _ => by dsimp only; (repeat' split) <;> rfl
  | readSettings p => exact .read fun _ _ => by (repeat' split) <;> rfl
  | setLevel p => exact execSetLevel_lawful p
  | allOff p => exact execAllOff_lawful p
  | setRemotePermit p => exact execSetRemotePermit_lawful p
  | pause p => exact execPause_lawful p
  | resume p => exact execResume_lawful p
  | activate p => exact execActivate_lawful p
  | deactivate p => exact execDeactivate_lawful p
  | softReset p => exact execSoftReset_lawful p
  | surveyStart p => exact execSurveyStart_lawful p
  | surveySuspend p => exact execSurveySuspend_lawful p
  | surveyResume p => exact execSurveyResume_lawful p
  | surveyAbort p => exact execSurveyAbort_lawful p
  | writeShowroomRow p => exact execWriteShowroomRow_lawful p
  | writeSetting p => exact execWriteSetting_lawful p
  | writeLevelTable p => exact execWriteLevelTable_lawful p
  | storeSettings p => exact execStoreSettings_lawful p
  | setExclusion p => exact execSetExclusion_lawful p
  | lockExclusion p => exact execLockExclusion_lawful p
  | boardHello bd => exact .unlessReset fun _ => .takeBoardFrame fun f u => u.helloFrame_abides bd f
  | report bd => exact .unlessReset fun _ => .takeBoardFrame fun f u => u.reportFrame_abides bd f
  | stopConfirm bd => exact .unlessReset fun _ => .takeBoardFrame fun f u => u.confirmFrame_abides bd f
  | stopTimerExpiry g => exact .expiry fun u => u.stopExpired_abides g
  | lineDownTimerExpiry bd => exact .expiry fun u => u.lineSettled_abides bd
  | retryTimerExpiry g => exact execRetryTimerExpiry_lawful g
  | chainTransferComplete readback => exact execChainTransferComplete_lawful readback
  | settleTimerExpiry => exact .expiry State.settleExpired_abides
  | recallExpiry i => exact execRecallExpiry_lawful i
  | boostExpiry n => exact execBoostExpiry_lawful n
  | pauseTimerExpiry => exact .expiry State.pauseExpired_abides
  | autoOffExpiry => exact .expiry State.leaveForStandby_abides
  | startTimerExpiry => exact execStartTimerExpiry_lawful
  | suspendTimerExpiry => exact .expiry fun u => u.abortSurvey_abides _
  | storeComplete => exact execStoreComplete_lawful
  | byteReceived l byte => exact execByteReceived_lawful l byte

theorem step_lawful {s t : State} (h : step s = .next t) : Lawful s t := by
  have hexec : ∀ (c : Instr) (u : State), exec c u = .next t → Lawful u t := fun c u he => by
    obtain ⟨v, hv, hlawful⟩ := exec_lawful c u
    cases hv.symm.trans he; exact hlawful
  obtain ⟨c, rest, -, he⟩ | ⟨c, -, -, he⟩ | ⟨-, -, rfl⟩ := step_cases h
  · exact (s.withPending_lawful rest).trans (hexec c _ he)
  · exact hexec c s he
  · exact s.elapse_lawful 1

/-- Settles O16: a P_full that changes limits the residue, the share computation computes it below P_full, and nothing
else moves either but a loss and a reset, which leave none. -/
theorem residuesStayBelowOneSlot : Obligations.ResiduesStayBelowOneSlot := fun _ _ hs h => (step_lawful h).residues hs

/-- Settles O54: every command, in a reset and outside one, keeps the modes in agreement, and judges the lines
wherever it moves one of their conditions. -/
theorem modesAndLinesStayInAgreement : Obligations.ModesAndLinesStayInAgreement := fun _ _ hs h =>
  ⟨(step_lawful h).modes hs, (step_lawful h).lines hs⟩

end Sys2Proof.Machine
end

section
/-! PROOFS. The stop timers and the retry timers of the generators (R102, R104, R105, R107). -/

namespace Sys2Proof.Machine

open Sys2Proof.Safety

section
variable (s : State)

/-- R104: a board becomes stuck, unless it was, and its line is judged. -/
def State.markStuck (bd : Board) (s : State) : State :=
  if (s.board bd).stuck then s else (s.modBoard bd (fun r => { r with stuck := true })).judgeLine bd

theorem State.stopExpired_eq (g : Nat) : s.stopExpired g =
    (s.markStuck (boardOf g)).modGen g (fun x => { x with stopTimer := none, unconfirmed := true }) := rfl

theorem State.markStuck_eq (bd : Board) :
    s.markStuck bd = { s with boardA := (s.markStuck bd).boardA, boardB := (s.markStuck bd).boardB } := by
  unfold State.markStuck
  split
  · rfl
  · rw [State.judgeLine_eq]; cases bd <;> rfl

/-- R104, R105: no line of a stuck board is wanted. -/
theorem State.markStuck_board (bd : Board) : (s.markStuck bd).board bd =
    if (s.board bd).stuck then s.board bd else { lineDropped s.now (s.board bd) with stuck := true } := by
  have hdropped : ∀ r : BoardRec, lineDropped s.now { r with stuck := true } =
      { lineDropped s.now r with stuck := true } := fun r => by unfold lineDropped; dsimp only; split <;> rfl
  unfold State.markStuck
  split
  · rfl
  · rw [State.judgeLine_unwanted (by simp [State.lineWanted]), State.board_modBoard, State.modBoard_now, hdropped]

theorem State.markStuck_board_ne {bd q : Board} (h : q ≠ bd) : (s.markStuck bd).board q = s.board q := by
  unfold State.markStuck
  split
  · rfl
  · rw [State.judgeLine_board_ne _ h, State.board_modBoard_ne _ _ h]

variable {s} {g : Fin 8} {d : Nat}

theorem exec_stopTimerExpiry (hr : s.resetting = none) (hd : (s.gen g.val).stopTimer = some d) :
    exec (.stopTimerExpiry g) s = .next ((s.elapseTo d).stopExpired g.val) :=
  exec_of_expiry (timer := fun t => (t.gen g.val).stopTimer) hr hd fun _ => rfl

theorem exec_retryTimerExpiry (hr : s.resetting = none) (hd : (s.gen g.val).retryTimer = .running d) :
    exec (.retryTimerExpiry g) s =
      .next ((s.elapseTo d).modGen g.val (fun x => { x with retryTimer := .expired })) := by
  show execRetryTimerExpiry g s = _
  rw [execRetryTimerExpiry, State.unlessReset_none _ hr, hd]

end

/-- Settles O24: the board is marked stuck and its line dropped before the generator is marked unconfirmed. -/
theorem stopAndRetryTimersExpire : Obligations.StopAndRetryTimersExpire := by
  intro s g d hr h8
  refine ⟨fun hd => ?_, fun hd => ?_⟩
  · have hboard : ∀ q, ((s.elapseTo d).stopExpired g.val).board q =
        ((s.elapseTo d).markStuck (boardOf g.val)).board q := State.board_congr rfl rfl
    have hgens : ((s.elapseTo d).markStuck (boardOf g.val)).gens = s.gens := by rw [State.markStuck_eq]; rfl
    have hgen : ∀ h, ((s.elapseTo d).markStuck (boardOf g.val)).gen h = s.gen h := State.gen_congr hgens
    refine ⟨_, exec_stopTimerExpiry hr hd, ?_, fun h _ hne => ?_, ?_, fun bd hne => ?_, ?_⟩
    · rw [State.stopExpired_eq, State.gen_modGen _ _ _ (by rw [hgens]; omega), if_pos rfl, hgen]
    · rw [State.stopExpired_eq, State.gen_modGen_ne _ _ hne, hgen]
    · rw [hboard, State.markStuck_board, (State.stopExpired_frame _ _).1]; rfl
    · rw [hboard, State.markStuck_board_ne _ hne]; rfl
    · rw [State.stopExpired_eq, State.markStuck_eq]; rfl
  · refine ⟨_, exec_retryTimerExpiry hr hd, ?_, fun h _ hne => ?_, rfl⟩
    · exact (State.gen_modGen _ _ _ (by rw [State.elapseTo_gens, h8]; exact g.isLt)).trans (if_pos rfl)
    · exact State.gen_modGen_ne _ _ hne

end Sys2Proof.Machine
end

section
/-! PROOFS. Frames that arrive on a board link (R94, R96, R138, R160): the presence of the board, its return, and the
leaving of START that follows. -/

namespace Sys2Proof.Machine

open Sys2Proof.Safety

section
variable (s : State) (bd : Board)

/-! ### The leaving of START (R138) -/

theorem State.judgeStart_eq : s.judgeStart = startTested s := by
  have hdone : s.startDone = true ↔
      s.ctl.mode = .start ∧ s.mains.l1.sync = .valid ∧ s.boardLink .a ≠ .absent ∧ s.boardLink .b ≠ .absent := by
    simp [State.startDone, and_assoc]
  exact if_congr hdone rfl rfl

/-- R138: the test of START does not look at the queues. -/
theorem State.judgeStart_enqueue (f : Frame) :
    s.judgeStart.enqueue (boardLinkId bd) f = (s.enqueue (boardLinkId bd) f).judgeStart := by
  have hdone : (s.enqueue (boardLinkId bd) f).startDone = s.startDone := by cases bd <;> rfl
  unfold State.judgeStart
  rw [hdone]
  split
  · cases bd <;> rfl
  · rfl

/-! ### The frame that has arrived (R160) -/

theorem presenceTime_board : presenceTime (boardLinkId bd) = 400 * ms := by cases bd <;> rfl

theorem State.frameComplete_board (f : Frame) : s.frameComplete (boardLinkId bd) f =
    if 2 ≤ (s.link (boardLinkId bd)).queue.length then s else s.boardArrival bd f := by cases bd <;> rfl

/-- The link records of one link rewritten one after another. -/
theorem State.modLink_modLink (l : Link) (f g : LinkRec → LinkRec) :
    (s.modLink l f).modLink l g = s.modLink l (fun r => g (f r)) := by cases l <;> rfl

variable {s bd} {kind tag : Byte} {payload : List Byte}

theorem exec_frameArrival_long {l : Link} (hr : s.resetting = none) (h : 64 < payload.length) :
    exec (.frameArrival l kind tag payload) s = .next (s.endAssembly l) := by
  show execFrameArrival l kind tag payload s = _
  rw [execFrameArrival, State.unlessReset_none _ hr, if_neg (by omega)]

theorem exec_frameArrival_full (hr : s.resetting = none) (h : 2 ≤ (s.link (boardLinkId bd)).queue.length) :
    exec (.frameArrival (boardLinkId bd) kind tag payload) s = .next (s.endAssembly (boardLinkId bd)) := by
  show execFrameArrival _ kind tag payload s = _
  rw [execFrameArrival, State.unlessReset_none _ hr]
  dsimp only
  rw [State.frameComplete_board, if_pos (c := 2 ≤ _) (by simpa [State.endAssembly] using h), ite_self]

theorem exec_frameArrival_board (hr : s.resetting = none) (hl : payload.length ≤ 64)
    (h : (s.link (boardLinkId bd)).queue.length < 2) :
    exec (.frameArrival (boardLinkId bd) kind tag payload) s =
      .next ((s.endAssembly (boardLinkId bd)).boardArrival bd { kind := kind, tag := tag, payload := payload }) := by
  show execFrameArrival _ kind tag payload s = _
  rw [execFrameArrival, State.unlessReset_none _ hr, if_pos hl, State.frameComplete_board,
    if_neg (by simpa [State.endAssembly] using h)]

theorem State.endAssembly_boardLink : (s.endAssembly (boardLinkId bd)).boardLink bd = s.boardLink bd := by
  simp [State.boardLink, State.endAssembly]

/-! ### A frame on a board in use (R94) -/

/-- R94, R160: the link of a board in use, once a frame has arrived. -/
def arrivedLink (now : Nat) (f : Frame) (r : LinkRec) : LinkRec :=
  { state := .present, presence := some (now + 400 * ms), rx := .hunting, gapTimer := none
    queue := if boardSends f.kind = true then r.queue ++ [f] else r.queue }

theorem State.boardArrival_up (h : (s.boardLink bd).up = true) (f : Frame) :
    (s.endAssembly (boardLinkId bd)).boardArrival bd f =
      startTested (s.modLink (boardLinkId bd) (arrivedLink s.now f)) := by
  rw [← State.judgeStart_eq]
  unfold State.boardArrival
  rw [if_pos (by rwa [State.endAssembly_boardLink])]
  have hlink : ∀ k : LinkRec → LinkRec, (∀ r, k r = arrivedLink s.now f r) →
      (s.modLink (boardLinkId bd) k).judgeStart = (s.modLink (boardLinkId bd) (arrivedLink s.now f)).judgeStart :=
    fun k hk => by rw [funext hk]
  dsimp only
  split
  · rename_i hsends
    rw [State.judgeStart_enqueue, State.endAssembly, State.enqueue, State.modLink_modLink, State.modLink_modLink]
    exact hlink _ fun r => by simp [arrivedLink, hsends, LinkRec.makePresent, presenceTime_board]
  · rename_i hsends
    rw [State.endAssembly, State.modLink_modLink]
    exact hlink _ fun r => by simp [arrivedLink, hsends, LinkRec.makePresent, presenceTime_board]

/-! ### The return of a board (R96) -/

theorem State.boardBack_eq : s.boardBack bd = { s with
    links := (s.modLink (boardLinkId bd) (LinkRec.makePresent (boardLinkId bd) s.now)).links
    boardA := (s.boardBack bd).boardA, boardB := (s.boardBack bd).boardB
    gens := (s.mapGens (fun g x => if boardOf g = bd then x.comeBack else x)).gens } := by
  unfold State.boardBack
  rw [State.judgeLine_eq]
  cases bd <;> rfl

theorem State.boardBack_links : (s.boardBack bd).links =
    (s.modLink (boardLinkId bd) (LinkRec.makePresent (boardLinkId bd) s.now)).links := by rw [State.boardBack_eq]

theorem State.boardBack_gens : (s.boardBack bd).gens =
    (s.mapGens (fun g x => if boardOf g = bd then x.comeBack else x)).gens := by rw [State.boardBack_eq]

/-- R96, R104, R105: the line of a board that returns is judged with its stuck flag clear. -/
theorem State.boardBack_board : (s.boardBack bd).board bd =
    lineJudged s.now (decide (s.ctl.mode = .active) && !s.store.settings.showroom)
      { s.board bd with stuck := false } := by
  have hlink : ∀ t : State, (t.modLink (boardLinkId bd) (LinkRec.makePresent (boardLinkId bd) s.now)).boardLink bd =
      .present := fun t => by simp [State.boardLink, LinkRec.makePresent]
  have hboard : ∀ f k, ((s.mapGens f).modLink (boardLinkId bd) k).board bd = s.board bd := fun f k =>
    State.board_congr (by simp) (by simp) bd
  rw [State.boardBack, State.clearStuck_board, hlink, hboard]
  simp [LinkState.up]

theorem State.boardBack_board_ne {q : Board} (h : q ≠ bd) : (s.boardBack bd).board q = s.board q := by
  unfold State.boardBack
  rw [State.judgeLine_board_ne _ h]
  exact (State.board_modBoard_ne _ _ h).trans (State.board_congr (by simp) (by simp) q)

theorem comeBack_eq (x : Gen) :
    x.comeBack = if x.state = .lost then { x with state := stoppedState x, fault := .none } else x := by
  rw [Gen.comeBack, restState_eq]

theorem State.boardBack_gen {g : Nat} (hg : g < s.gens.length) :
    (s.boardBack bd).gen g = if boardOf g = bd then (s.gen g).comeBack else s.gen g := by
  rw [State.gen_congr State.boardBack_gens]; exact s.gen_mapGens _ hg

/-- R94, R96: an all-stopped hello makes a silent board return, and joins the queue without further effect. -/
theorem State.boardArrival_returns (hup : (s.boardLink bd).up = false) {f : Frame} (hf : allStopped f = true) :
    s.boardArrival bd f = startTested ((s.boardBack bd).enqueue (boardLinkId bd) { f with returned := true }) := by
  unfold State.boardArrival
  rw [if_neg (by simp [hup]), if_pos hf, State.boardReturns_eq, State.judgeStart_enqueue, State.judgeStart_eq]

/-- R94, R96, R160: the state once a hello has made a silent board return, before START is tested. -/
def State.readmitted (bd : Board) (f : Frame) (s : State) : State :=
  ((s.endAssembly (boardLinkId bd)).boardBack bd).enqueue (boardLinkId bd) { f with returned := true }

theorem State.readmitted_links (f : Frame) : (s.readmitted bd f).links =
    (s.modLink (boardLinkId bd) (fun r =>
      { state := .present, presence := some (s.now + 400 * ms), rx := .hunting, gapTimer := none
        queue := r.queue ++ [{ f with returned := true }] })).links := by
  have hlinks : ∀ (t u : State) k, t.links = u.links → (t.modLink (boardLinkId bd) k).links =
      (u.modLink (boardLinkId bd) k).links := fun t u k h => by cases bd <;> simp only [boardLinkId, State.modLink, h]
  unfold State.readmitted State.enqueue
  rw [hlinks _ _ _ State.boardBack_links]
  simp only [State.endAssembly, State.modLink_modLink, LinkRec.makePresent, presenceTime_board, State.modLink_now]

theorem State.readmitted_board (f : Frame) (q : Board) :
    (s.readmitted bd f).board q = ((s.endAssembly (boardLinkId bd)).boardBack bd).board q :=
  State.board_congr (by simp [State.readmitted]) (by simp [State.readmitted]) q

theorem State.readmitted_gen (f : Frame) {g : Nat} (hg : g < s.gens.length) :
    (s.readmitted bd f).gen g = if boardOf g = bd then (s.gen g).comeBack else s.gen g := by
  have hend : (s.endAssembly (boardLinkId bd)).gen g = s.gen g := State.gen_congr (by simp) g
  rw [State.gen_congr (s := (s.endAssembly (boardLinkId bd)).boardBack bd) (by simp [State.readmitted]),
    State.boardBack_gen (by simpa using hg), hend]

theorem State.readmitted_eq (f : Frame) : s.readmitted bd f = { s with
    links := (s.readmitted bd f).links, boardA := (s.readmitted bd f).boardA, boardB := (s.readmitted bd f).boardB
    gens := (s.readmitted bd f).gens } := by
  unfold State.readmitted
  rw [State.boardBack_eq]
  cases bd <;> rfl

theorem State.boardArrival_silent (hup : (s.boardLink bd).up = false) {f : Frame} (hf : allStopped f = false) :
    s.boardArrival bd f = s := by
  unfold State.boardArrival
  rw [if_neg (by simp [hup]), if_neg (by simp [hf])]

theorem allStopped_iff (f : Frame) :
    allStopped f = true ↔ f.kind = kindHello ∧ f.payload.length = 1 ∧ byteAt f.payload 0 % 2 = 1 := by
  simp [allStopped, and_assoc]

end

/-- Settles O29: the test of START neither looks at nor changes a queue, so it comes last. -/
theorem boardFramesArrive : Obligations.BoardFramesArrive := by
  intro s bd kind tag payload hr h8 ignored hignored
  replace hignored : ignored = s.endAssembly (boardLinkId bd) := hignored
  subst hignored
  have hup : (s.endAssembly (boardLinkId bd)).boardLink bd = s.boardLink bd := State.endAssembly_boardLink
  refine ⟨fun h => ?_, fun hlen hq => ⟨fun h => ?_, fun h hk hl hb => ?_, fun h hnot => ?_⟩⟩
  · rcases h with h | h
    · exact exec_frameArrival_long hr h
    · exact exec_frameArrival_full hr h
  · rw [exec_frameArrival_board hr hlen hq, State.boardArrival_up h]; rfl
  · have hf : allStopped { kind := kind, tag := tag, payload := payload } = true := (allStopped_iff _).2 ⟨hk, hl, hb⟩
    have hlinks := s.readmitted_links (bd := bd) { kind := kind, tag := tag, payload := payload }
    refine ⟨s.readmitted bd { kind := kind, tag := tag, payload := payload }, ?_, ?_, ?_, fun g hg hbd => ?_,
      fun g hg hbd => ?_, fun q hq => ⟨?_, ?_⟩, ?_, ?_, State.readmitted_eq _⟩
    · rw [exec_frameArrival_board hr hlen hq, State.boardArrival_returns (hup ▸ h) hf]; rfl
    · rw [State.link_congr hlinks, State.link_modLink]
    · rw [State.readmitted_board, State.boardBack_board, State.board_congr (s := s) (by simp) (by simp)]; simp
    · rw [State.readmitted_gen _ (h8 ▸ hg), if_pos hbd, comeBack_eq]
    · rw [State.readmitted_gen _ (h8 ▸ hg), if_neg hbd]
    · rw [State.readmitted_board, State.boardBack_board_ne hq, State.board_congr (s := s) (by simp) (by simp)]
    · rw [State.boardLink_congr hlinks, State.boardLink_modLink_ne _ _ hq]
    · rw [hlinks]; cases bd <;> rfl
    · rw [hlinks]; cases bd <;> rfl
  · rw [exec_frameArrival_board hr hlen hq,
      State.boardArrival_silent (hup ▸ h) (Bool.eq_false_iff.2 fun hf => hnot ((allStopped_iff _).1 hf))]

end Sys2Proof.Machine
end

section
/-! PROOFS. The half-cycle patterns (R132): which entries are on, and that they are as many as the slots. -/

namespace Sys2Proof.Machine

/-- The bits of a mask are those of an ascending list. -/
theorem testBit_maskOf {bits : List Nat} (h : bits.SortedLT) (k : Nat) :
    (maskOf bits).testBit k = decide (k ∈ bits) := by
  rw [maskOf_eq_sum, Bool.eq_iff_iff, ← Nat.mem_bitIndices, Nat.bitIndices_sum_map_two_pow h, decide_eq_true_iff]

/-- R132: the entries of a pattern that are on. -/
theorem patternOf_getLsbD (position slots : Nat) {k : Nat} (hk : k < 16) :
    (patternOf position slots).getLsbD k = slotOn position slots k := by
  have hsorted : ((List.range 16).filter (slotOn position slots)).SortedLT :=
    (List.sortedLT_range 16).pairwise.filter _ |>.sortedLT
  rw [patternOf, BitVec.getLsbD_ofNat, testBit_maskOf hsorted, Bool.eq_iff_iff]
  simp [hk]

/-- R132: the half-cycles that begin a new whole slot, of the first `n` at offset 0, are the whole slots by then. -/
theorem countP_slotsBegun {slots : Nat} (h : slots ≤ 16) (n : Nat) :
    (List.range n).countP (fun j => decide (j * slots / 16 < (j + 1) * slots / 16)) = n * slots / 16 := by
  induction n with
  | zero => simp
  | succ n ih =>
    have hstep : (n + 1) * slots = n * slots + slots := by ring
    rw [List.range_succ, List.countP_append, ih, List.countP_singleton]
    split <;> rename_i hon <;> simp only [decide_eq_true_eq] at hon <;> omega

/-- R132: an offset turns the frame's half-cycles round. -/
theorem offset_perm {position : Nat} (h : position < 4) :
    ((List.range 16).map fun k => (k + 4 * position) % 16).Perm (List.range 16) := by
  interval_cases position <;> decide

/-- Settles O14: the entries on are counted at offset 0, where the number of slots begun rises by at most one with each
half-cycle. -/
theorem patternsHoldTheirSlots : Obligations.PatternsHoldTheirSlots := by
  intro position slots hposition hslots
  refine ⟨?_, fun k hk => patternOf_getLsbD position slots hk⟩
  calc ((List.range 16).filter fun k => (patternOf position slots).getLsbD k).length
      = (List.range 16).countP (slotOn position slots) := by
        rw [← List.countP_eq_length_filter]
        exact List.countP_congr fun k hk => by rw [patternOf_getLsbD position slots (List.mem_range.1 hk)]
    _ = ((List.range 16).map fun k => (k + 4 * position) % 16).countP
          (fun j => decide (j * slots / 16 < (j + 1) * slots / 16)) := by
        rw [List.countP_map]; rfl
    _ = 16 * slots / 16 := by rw [(offset_perm hposition).countP_eq, countP_slotsBegun hslots]
    _ = slots := by omega

/-- R133: a pattern without slots is all off. -/
theorem patternOf_zero (position : Nat) : patternOf position 0 = 0 :=
  BitVec.eq_of_getLsbD_eq fun k hk => by simp [patternOf_getLsbD position 0 hk, slotOn]

end Sys2Proof.Machine
end

section
/-! PROOFS. The stages of the share computation that the budgets rest on (R122, R124, R128, R129): the walk of the
demand order, the plans of the generators, and the phase check. -/

namespace Sys2Proof.Machine

open Sys2Proof.Safety

/-! ### Grants (R122) -/

/-- One of two figures, the first for L1 and the second for L2. -/
def sideOf (bd : Board) (x : Nat × Nat) : Nat := match bd with | .a => x.1 | .b => x.2

section
variable (demand : Nat → Nat × Nat)

/-- R122: the pan at the front is granted its demand within the budget, and the others what they are granted from the
rest of it. -/
theorem grantOn_grantWalk_cons (m : Nat) (rest : List Nat) (remA remB n : Nat) (bd : Board) :
    grantOn (grantWalk demand (m :: rest) remA remB) n bd =
      if m = n then min (sideOf bd (demand m)) (sideOf bd (remA, remB))
      else grantOn (grantWalk demand rest (remA - min (demand m).1 remA) (remB - min (demand m).2 remB)) n bd := by
  by_cases h : m = n
  · simp only [grantOn, grantWalk, List.find?_cons, h, decide_true, if_true]
    cases bd <;> rfl
  · simp [grantOn, grantWalk, h]

theorem grantedOn_grantWalk_cons (m : Nat) (rest : List Nat) (remA remB : Nat) (bd : Board) :
    grantedOn (grantWalk demand (m :: rest) remA remB) bd = min (sideOf bd (demand m)) (sideOf bd (remA, remB)) +
      grantedOn (grantWalk demand rest (remA - min (demand m).1 remA) (remB - min (demand m).2 remB)) bd := by
  cases bd <;> simp [grantedOn, grantWalk, sideOf]

/-- What remains of the budgets behind the front pan. -/
theorem sideOf_remaining (m remA remB : Nat) (bd : Board) :
    sideOf bd (remA - min (demand m).1 remA, remB - min (demand m).2 remB) =
      sideOf bd (remA, remB) - min (sideOf bd (demand m)) (sideOf bd (remA, remB)) := by
  cases bd <;> rfl

theorem grantedOn_le (order : List Nat) (remA remB : Nat) (bd : Board) :
    grantedOn (grantWalk demand order remA remB) bd ≤ sideOf bd (remA, remB) := by
  induction order generalizing remA remB with
  | nil => simp [grantWalk, grantedOn]
  | cons m rest ih =>
    have hrest := ih (remA - min (demand m).1 remA) (remB - min (demand m).2 remB)
    rw [sideOf_remaining] at hrest
    rw [grantedOn_grantWalk_cons]
    omega

theorem grantOn_le_demand (order : List Nat) (remA remB n : Nat) (bd : Board) :
    grantOn (grantWalk demand order remA remB) n bd ≤ sideOf bd (demand n) := by
  induction order generalizing remA remB with
  | nil => exact Nat.zero_le _
  | cons m rest ih =>
    rw [grantOn_grantWalk_cons]
    split
    · rename_i h; subst h; exact Nat.min_le_left _ _
    · exact ih _ _

/-- R122: a pan outside the demand order is granted nothing. -/
theorem grantOn_eq_zero {order : List Nat} {n : Nat} (h : n ∉ order) (remA remB : Nat) (bd : Board) :
    grantOn (grantWalk demand order remA remB) n bd = 0 := by
  induction order generalizing remA remB with
  | nil => rfl
  | cons m rest ih =>
    rw [grantOn_grantWalk_cons, if_neg fun he => h (by simp [he]), ih fun hr => h (.tail _ hr)]

end

theorem State.mem_demand_of_granted {s : State} {n : Nat} {bd : Board} (h : 0 < grantOn s.grants n bd) :
    n ∈ s.levels.demand := by
  by_contra hn
  rw [State.grants, grantOn_eq_zero _ hn] at h
  exact Nat.lt_irrefl _ h

/-! ### Plans (R124 to R128) -/

section
variable {s : State} {grants : List Grant} {g : Nat}

/-- R118: what makes a generator usable. -/
theorem State.usable_iff {n : Nat} : s.usable n g = true ↔ (s.gen g).state.ready = true ∧ (s.gen g).pan = some n ∧
    s.heats n = true ∧ (s.gen g).inOperation = false ∧ (∀ c ∈ (s.gen g).coils, s.contributes n c = true) ∧
    s.boardDrives (boardOf g) = true := by
  simp [State.usable, and_assoc]

/-- R124: a share comes from a grant of the pan that the generator is usable for. -/
theorem State.shareOf_pos (h : 0 < s.shareOf grants g) :
    ∃ n, (s.gen g).pan = some n ∧ s.usable n g = true ∧ 0 < grantOn grants n (boardOf g) := by
  unfold State.shareOf at h
  split at h
  · exact absurd h (Nat.lt_irrefl 0)
  · rename_i n hn
    split at h
    · rename_i hu
      refine ⟨n, hn, hu, Nat.pos_of_ne_zero fun h0 => ?_⟩
      simp [h0, shareFloor] at h
    · exact absurd h (Nat.lt_irrefl 0)

/-- The shares of all eight generators. -/
def State.allShares (s : State) (grants : List Grant) : List Nat := genIds.map (s.shareOf grants)

theorem State.allShares_getD (hg : g < 8) : ((s.allShares grants)[g]?).getD 0 = s.shareOf grants g := by
  simp [State.allShares, genIds, hg]

theorem State.runSet_contains (hg : g < 8) : (s.runSet (s.allShares grants)).contains g = true ↔
    0 < s.shareOf grants g ∧ (s.gen g).fMin.isSome = true := by
  simp [State.runSet, State.inRun, State.allShares_getD hg, genIds, hg]

theorem State.planOf_firstPlans (hg : g < 8) :
    planOf (s.firstPlans grants) g = s.planGen (s.allShares grants) (s.runSet (s.allShares grants)) g := by
  simp [planOf, State.firstPlans, State.allShares, genIds, hg]

theorem State.firstPlans_length : (s.firstPlans grants).length = 8 := by simp [State.firstPlans, genIds]

theorem planOf_eq_default {plans : List GenPlan} (h : plans.length ≤ g) :
    planOf plans g = { share := 0, ordered := 0, due := 0, power := 0, slots := 0 } := by
  simp [planOf, h]

/-- R125, R128: slots come from the P_full of a generator of the run set, outside showroom mode. -/
theorem State.firstPlans_powered (h : (planOf (s.firstPlans grants) g).power ≠ 0) :
    0 < s.shareOf grants g ∧ (s.gen g).fMin.isSome = true ∧ s.store.settings.showroom = false := by
  have hg : g < 8 := by
    by_contra hg
    exact h (by rw [planOf_eq_default (by rw [State.firstPlans_length]; omega)])
  rw [State.planOf_firstPlans hg, State.planGen] at h
  dsimp only at h
  split at h
  · rename_i hplanned
    simp only [State.planned, Bool.and_eq_true, Bool.not_eq_true', State.runSet_contains hg] at hplanned
    obtain ⟨⟨⟨⟨hshare, hfreq⟩, hshowroom⟩, -⟩, -⟩ := hplanned
    exact ⟨hshare, hfreq, hshowroom⟩
  · exact absurd rfl h

theorem State.firstPlans_slots (h : (planOf (s.firstPlans grants) g).power = 0) :
    (planOf (s.firstPlans grants) g).slots = 0 := by
  by_cases hg : g < 8
  · rw [State.planOf_firstPlans hg] at h ⊢
    exact if_pos h
  · rw [planOf_eq_default (by rw [State.firstPlans_length]; omega)]

end

/-! ### The phase check (R129) -/

/-- R129: the energy that the plans place on one generator. -/
def planEnergy (plans : List GenPlan) (g : Nat) : Nat := (planOf plans g).slots * (planOf plans g).power

theorem plannedOn_eq (plans : List GenPlan) (bd : Board) :
    plannedOn plans bd = ((gensOf bd).map (planEnergy plans)).sum := rfl

/-- One term of a sum apart from the others. -/
theorem sum_map_split {l : List Nat} (hl : l.Nodup) {x : Nat} (hx : x ∈ l) (f : Nat → Nat) :
    (l.map f).sum = f x + (l.map fun y => if y = x then 0 else f y).sum := by
  induction l with
  | nil => exact absurd hx List.not_mem_nil
  | cons y rest ih =>
    obtain ⟨hy, hrest⟩ := List.nodup_cons.1 hl
    by_cases h : y = x
    · subst h
      have hsame : rest.map (fun z => if z = y then 0 else f z) = rest.map f :=
        List.map_congr_left fun z hz => if_neg (ne_of_mem_of_not_mem hz hy)
      simp [hsame]
    · have := ih hrest ((List.mem_cons.1 hx).resolve_left fun he => h he.symm)
      simp only [List.map_cons, List.sum_cons, if_neg h, this]
      omega

theorem gensOf_nodup (bd : Board) : (gensOf bd).Nodup := by cases bd <;> decide

/-- R129 for one generator, `others` being the energy planned on the phase's other generators: the figure follows the
slots, each removal is counted, slots are kept only within the limit, and none is removed below it. -/
theorem trimGen_spec (limit power others slots : Nat) {r : Nat × Nat × Nat}
    (hr : trimGen limit power slots (others + slots * power) = r) :
    r.2.1 = others + r.1 * power ∧ r.1 + r.2.2 = slots ∧ (r.1 ≠ 0 → r.2.1 ≤ limit) ∧
      (r.1 < slots → limit < others + (r.1 + 1) * power) := by
  induction slots generalizing r with
  | zero => subst hr; simp [trimGen]
  | succ slots ih =>
    have hless : others + (slots + 1) * power - power = others + slots * power := by
      rw [Nat.add_mul, Nat.one_mul, ← Nat.add_assoc, Nat.add_sub_cancel]
    rw [trimGen] at hr
    split at hr
    · rename_i habove
      obtain ⟨hfigure, hcount, hwithin, hneeded⟩ := ih rfl
      rw [hless] at hr
      subst hr
      refine ⟨hfigure, by dsimp only; omega, hwithin, fun _ => ?_⟩
      by_cases hlast : (trimGen limit power slots (others + slots * power)).1 < slots
      · exact hneeded hlast
      · have hall : (trimGen limit power slots (others + slots * power)).1 = slots := by omega
        simpa only [hall] using habove
    · subst hr
      exact ⟨rfl, rfl, fun _ => Nat.le_of_not_lt ‹_›, fun h => absurd h (Nat.lt_irrefl _)⟩

/-- R129: the plans once one generator's slots have been cut down to `kept`. -/
def cutPlan (plans : List GenPlan) (g kept : Nat) : List GenPlan := plans.set g { planOf plans g with slots := kept }

section
variable {plans : List GenPlan} {g : Nat}

theorem planOf_cutPlan (hg : g < plans.length) (kept h : Nat) :
    planOf (cutPlan plans g kept) h = if h = g then { planOf plans g with slots := kept } else planOf plans h := by
  rw [cutPlan, planOf_set]
  by_cases he : g = h
  · subst he; simp [hg]
  · rw [if_neg fun hc => he hc.1, if_neg fun hc => he hc.symm]

theorem cutPlan_length (kept : Nat) : (cutPlan plans g kept).length = plans.length := List.length_set

/-- The energy planned on a phase, once the slots of one of its generators have been cut. -/
theorem plannedOn_cutPlan {bd : Board} (hg : g ∈ gensOf bd) (hl : g < plans.length) (kept : Nat) :
    plannedOn (cutPlan plans g kept) bd =
      ((gensOf bd).map fun h => if h = g then 0 else planEnergy plans h).sum + kept * (planOf plans g).power := by
  rw [plannedOn_eq, sum_map_split (gensOf_nodup bd) hg, Nat.add_comm]
  congr 2
  · refine List.map_congr_left fun h _ => ?_
    by_cases he : h = g
    · simp [he]
    · simp [planEnergy, planOf_cutPlan hl, he]
  · simp [planEnergy, planOf_cutPlan hl]

/-- The same before the cut. -/
theorem plannedOn_split {bd : Board} (hg : g ∈ gensOf bd) :
    plannedOn plans bd =
      ((gensOf bd).map fun h => if h = g then 0 else planEnergy plans h).sum +
        (planOf plans g).slots * (planOf plans g).power := by
  rw [plannedOn_eq, sum_map_split (gensOf_nodup bd) hg, Nat.add_comm]; rfl

end

/-- The order in which slots are removed on a phase names generators of its board, each with a plan. -/
structure Trimmable (bd : Board) (order : List Nat) (plans : List GenPlan) : Prop where
  board : ∀ g ∈ order, g ∈ gensOf bd
  length : plans.length = 8

section
variable {bd : Board} {g : Nat} {rest order : List Nat} {plans : List GenPlan}

theorem Trimmable.lt (h : Trimmable bd order plans) {g : Nat} (hg : g ∈ order) : g < plans.length := by
  rw [h.length]; exact (mem_gensOf.1 (h.board g hg)).1

theorem Trimmable.tail (h : Trimmable bd (g :: rest) plans) (kept : Nat) : Trimmable bd rest (cutPlan plans g kept) :=
  ⟨fun x hx => h.board x (.tail _ hx), by rw [cutPlan_length, h.length]⟩

/-- R129: the check cuts the generator at the front of the order down to the slots it keeps and goes on with the rest:
slots are kept only within the limit, and none is removed that is not needed to come within it. -/
theorem Trimmable.walk (h : Trimmable bd (g :: rest) plans) (limit removed : Nat) :
    ∃ kept ≤ (planOf plans g).slots,
      trimWalk limit (g :: rest) plans (plannedOn plans bd) removed =
        trimWalk limit rest (cutPlan plans g kept) (plannedOn (cutPlan plans g kept) bd)
          (removed + ((planOf plans g).slots - kept)) ∧
      (kept ≠ 0 → plannedOn (cutPlan plans g kept) bd ≤ limit) ∧
      (kept < (planOf plans g).slots →
        limit < ((gensOf bd).map fun x => if x = g then 0 else planEnergy plans x).sum +
          (kept + 1) * (planOf plans g).power) := by
  have hspec := plannedOn_split (plans := plans) (h.board g (by simp)) ▸
    trimGen_spec limit (planOf plans g).power _ (planOf plans g).slots rfl
  obtain ⟨hfigure, hcount, hwithin, hneeded⟩ := hspec
  rw [← plannedOn_cutPlan (h.board g (by simp)) (h.lt (by simp))] at hfigure
  refine ⟨_, by omega, ?_, fun hkept => hfigure ▸ hwithin hkept, hneeded⟩
  rw [← hfigure, ← Nat.eq_sub_of_add_eq' hcount]
  rfl

/-- From `plans` to `plans'` slots have been removed from generators of `order` alone. -/
structure Cut (order : List Nat) (plans plans' : List GenPlan) : Prop where
  rest : ∀ g, planOf plans' g = { planOf plans g with slots := (planOf plans' g).slots }
  slots : ∀ g, (planOf plans' g).slots ≤ (planOf plans g).slots
  outside : ∀ g, g ∉ order → planOf plans' g = planOf plans g
  length : plans'.length = plans.length

theorem Cut.refl (order : List Nat) (plans : List GenPlan) : Cut order plans plans :=
  ⟨fun _ => rfl, fun _ => Nat.le_refl _, fun _ _ => rfl, rfl⟩

theorem Cut.trans {order' : List Nat} {plans' plans'' : List GenPlan} (h : Cut order plans plans')
    (h' : Cut order' plans' plans'') : Cut (order ++ order') plans plans'' where
  rest g := (h'.rest g).trans (by rw [h.rest g])
  slots g := (h'.slots g).trans (h.slots g)
  outside g hg := by
    rw [List.mem_append, not_or] at hg
    exact (h'.outside g hg.2).trans (h.outside g hg.1)
  length := h'.length.trans h.length

theorem Cut.power {plans' : List GenPlan} (h : Cut order plans plans') (g : Nat) :
    (planOf plans' g).power = (planOf plans g).power := by rw [h.rest]

theorem Cut.cons {plans' : List GenPlan} {kept : Nat} (hg : g < plans.length) (hkept : kept ≤ (planOf plans g).slots)
    (h : Cut rest (cutPlan plans g kept) plans') : Cut (g :: rest) plans plans' where
  rest x := by
    have hx := h.rest x
    rw [planOf_cutPlan hg] at hx
    split at hx
    · rename_i he; subst he; exact hx
    · exact hx
  slots x := by
    have hx := h.slots x
    rw [planOf_cutPlan hg] at hx
    split at hx
    · rename_i he; subst he; exact hx.trans hkept
    · exact hx
  outside x hx := by
    rw [h.outside x fun hr => hx (.tail _ hr), planOf_cutPlan hg, if_neg fun he => hx (by simp [he])]
  length := by rw [h.length, cutPlan_length]

/-- R129: the phase check removes slots along its order, and the figure follows them. -/
theorem Trimmable.cut (h : Trimmable bd order plans) (limit removed : Nat) {plans' : List GenPlan}
    {planned' removed' : Nat}
    (hr : trimWalk limit order plans (plannedOn plans bd) removed = (plans', planned', removed')) :
    Cut order plans plans' ∧ planned' = plannedOn plans' bd := by
  induction order generalizing plans removed with
  | nil => cases hr; exact ⟨.refl _ _, rfl⟩
  | cons g rest ih =>
    obtain ⟨kept, hkept, hwalk, -, -⟩ := h.walk limit removed
    obtain ⟨hcut, hplanned⟩ := ih (h.tail kept) _ (hwalk ▸ hr)
    exact ⟨hcut.cons (h.lt (by simp)) hkept, hplanned⟩

/-- R129: within the limit nothing is removed. -/
theorem Trimmable.within (h : Trimmable bd order plans) {limit removed : Nat} {plans' : List GenPlan}
    {planned' removed' : Nat} (hl : plannedOn plans bd ≤ limit)
    (hr : trimWalk limit order plans (plannedOn plans bd) removed = (plans', planned', removed')) :
    (∀ g, planOf plans' g = planOf plans g) ∧ planned' ≤ limit := by
  induction order generalizing plans removed with
  | nil => cases hr; exact ⟨fun _ => rfl, hl⟩
  | cons g rest ih =>
    obtain ⟨kept, hkept, hwalk, -, hneeded⟩ := h.walk limit removed
    have hall : kept = (planOf plans g).slots := by
      by_contra hne
      have hmore : kept + 1 ≤ (planOf plans g).slots := by omega
      have := hneeded hmore
      have := Nat.mul_le_mul_right (planOf plans g).power hmore
      rw [plannedOn_split (h.board g (by simp))] at hl
      omega
    have hsame : ∀ x, planOf (cutPlan plans g kept) x = planOf plans x := fun x => by
      rw [planOf_cutPlan (h.lt (by simp)), hall]; split <;> [(rename_i he; rw [he]); rfl]
    obtain ⟨hplans, hplanned⟩ := ih (h.tail kept) (by simpa only [plannedOn, hsame] using hl) (hwalk ▸ hr)
    exact ⟨fun x => (hplans x).trans (hsame x), hplanned⟩

/-- R129: after the check the figure lies within the limit, or the order has no slots left. -/
theorem Trimmable.limited (h : Trimmable bd order plans) {limit removed : Nat} {plans' : List GenPlan}
    {planned' removed' : Nat}
    (hr : trimWalk limit order plans (plannedOn plans bd) removed = (plans', planned', removed')) :
    planned' ≤ limit ∨ ∀ g ∈ order, (planOf plans' g).slots = 0 := by
  induction order generalizing plans removed with
  | nil => exact .inr fun _ hg => absurd hg List.not_mem_nil
  | cons g rest ih =>
    obtain ⟨kept, hkept, hwalk, hwithin, -⟩ := h.walk limit removed
    rw [hwalk] at hr
    by_cases h0 : kept = 0
    · refine (ih (h.tail kept) hr).imp_right fun hrest => ?_
      have hfront := ((h.tail kept).cut limit _ hr).1.slots g
      rw [planOf_cutPlan (h.lt (by simp)), if_pos rfl] at hfront
      exact List.forall_mem_cons.2 ⟨by dsimp only at hfront; omega, hrest⟩
    · exact .inl ((h.tail kept).within (hwithin h0) hr).2

/-- R117, R129: each slot that the check removes is counted. -/
theorem Trimmable.removals (h : Trimmable bd order plans) {limit removed : Nat} {plans' : List GenPlan}
    {planned' removed' : Nat}
    (hr : trimWalk limit order plans (plannedOn plans bd) removed = (plans', planned', removed')) :
    removed' = removed + ((gensOf bd).map fun g => (planOf plans g).slots - (planOf plans' g).slots).sum := by
  induction order generalizing plans removed with
  | nil => cases hr; simp
  | cons g rest ih =>
    obtain ⟨kept, hkept, hwalk, -, -⟩ := h.walk limit removed
    have hg := h.lt (List.mem_cons_self ..)
    have hcut := ((h.tail kept).cut limit _ (hwalk ▸ hr)).1.slots g
    rw [planOf_cutPlan hg, if_pos rfl] at hcut
    have hothers : (gensOf bd).map (fun x => if x = g then 0 else
          (planOf (cutPlan plans g kept) x).slots - (planOf plans' x).slots) =
        (gensOf bd).map fun x => if x = g then 0 else (planOf plans x).slots - (planOf plans' x).slots :=
      List.map_congr_left fun x _ => by
        by_cases he : x = g
        · simp [he]
        · simp [planOf_cutPlan hg, he]
    rw [ih (h.tail kept) (hwalk ▸ hr), sum_map_split (gensOf_nodup bd) (h.board g (by simp)),
      sum_map_split (gensOf_nodup bd) (h.board g (by simp)) fun x => (planOf plans x).slots - (planOf plans' x).slots,
      hothers, planOf_cutPlan hg, if_pos rfl]
    dsimp only at hcut ⊢
    omega

/-- R129: a generator loses slots only once all before it in the order have lost theirs, and while the figure, with the
slots of all behind it whole, is still above the limit. -/
theorem Trimmable.inOrder {pre post : List Nat} (h : Trimmable bd (pre ++ g :: post) plans)
    (hd : (pre ++ g :: post).Nodup) {limit removed : Nat} {plans' : List GenPlan} {planned' removed' : Nat}
    (hr : trimWalk limit (pre ++ g :: post) plans (plannedOn plans bd) removed = (plans', planned', removed'))
    (hg : (planOf plans' g).slots < (planOf plans g).slots) :
    (∀ x ∈ pre, (planOf plans' x).slots = 0) ∧
      limit < ((gensOf bd).map fun x => if x = g ∨ x ∈ pre then 0 else planEnergy plans x).sum +
        ((planOf plans' g).slots + 1) * (planOf plans g).power := by
  induction pre generalizing plans removed with
  | nil =>
    obtain ⟨kept, hkept, hwalk, -, hneeded⟩ := h.walk limit removed
    have hcut := ((h.tail kept).cut limit _ (hwalk ▸ hr)).1
    have hlast : (planOf plans' g).slots = kept := by
      rw [hcut.outside g (List.nodup_cons.1 hd).1, planOf_cutPlan (h.lt (by simp)), if_pos rfl]
    rw [hlast] at hg ⊢
    exact ⟨fun _ hx => absurd hx List.not_mem_nil, by simpa using hneeded hg⟩
  | cons x pre ih =>
    rw [List.cons_append] at h hd hr
    obtain ⟨hx, hrest⟩ := List.nodup_cons.1 hd
    have hxlt := h.lt (List.mem_cons_self ..)
    have hgx : g ≠ x := fun he => hx (by simp [he])
    obtain ⟨kept, hkept, hwalk, hwithin, -⟩ := h.walk limit removed
    rw [hwalk] at hr
    have hsame : planOf (cutPlan plans x kept) g = planOf plans g := by rw [planOf_cutPlan hxlt, if_neg hgx]
    have h0 : kept = 0 := by
      by_contra h0
      rw [((h.tail kept).within (hwithin h0) hr).1, hsame] at hg
      exact Nat.lt_irrefl _ hg
    obtain ⟨hbefore, hneeded⟩ := ih (h.tail kept) hrest hr (by rw [hsame]; exact hg)
    have hfront := ((h.tail kept).cut limit _ hr).1.slots x
    rw [planOf_cutPlan hxlt, if_pos rfl, h0] at hfront
    refine ⟨List.forall_mem_cons.2 ⟨Nat.le_zero.1 hfront, hbefore⟩, ?_⟩
    rw [hsame] at hneeded
    have hbehind : (gensOf bd).map (fun y => if y = g ∨ y ∈ pre then 0 else planEnergy (cutPlan plans x kept) y) =
        (gensOf bd).map fun y => if y = g ∨ y ∈ x :: pre then 0 else planEnergy plans y :=
      List.map_congr_left fun y _ => by
        by_cases he : y = x
        · simp [planEnergy, planOf_cutPlan hxlt, he, h0]
        · simp [planEnergy, planOf_cutPlan hxlt, he]
    rwa [hbehind] at hneeded

end

end Sys2Proof.Machine
end

section
/-! PROOFS. What a share computation leaves in the allocation record and the phase records (R117, R122, R129). -/

namespace Sys2Proof.Machine

open Sys2Proof.Safety

section
variable (s : State)

/-! ### The phase checks of both boards (R129) -/

/-- The plans before the phase check of a board. -/
def State.plansBefore (s : State) : Board → List GenPlan
  | .a => s.firstPlans s.grants
  | .b => (s.phaseCheck .a (s.firstPlans s.grants)).1

/-- The phase check of a board in the share computation: its plans, the planned figure and the removed count. -/
def State.checked (s : State) (bd : Board) : List GenPlan × Nat × Nat := s.phaseCheck bd (s.plansBefore bd)

/-- The plans after both phase checks. -/
def State.finalPlans (s : State) : List GenPlan := (s.checked .b).1

theorem State.mem_trimOrder {bd : Board} {g : Nat} :
    g ∈ s.trimOrder bd ↔ g ∈ gensOf bd ∧ ∃ n ∈ s.levels.demand, (s.gen g).pan = some n := by
  simp only [State.trimOrder, List.mem_flatMap, List.mem_reverse, List.mem_filter, decide_eq_true_eq]
  exact ⟨fun ⟨n, hn, hg, hp⟩ => ⟨hg, n, hn, hp⟩, fun ⟨hg, n, hn, hp⟩ => ⟨n, hn, hg, hp⟩⟩

theorem State.phaseCheck_spec {bd : Board} {plans : List GenPlan} (hl : plans.length = 8) :
    Trimmable bd (s.trimOrder bd) plans ∧ Cut (s.trimOrder bd) plans (s.phaseCheck bd plans).1 := by
  have h : Trimmable bd (s.trimOrder bd) plans := ⟨fun g hg => ((s.mem_trimOrder).1 hg).1, hl⟩
  exact ⟨h, (h.cut _ 0 rfl).1⟩

theorem State.plansBefore_length (bd : Board) : (s.plansBefore bd).length = 8 := by
  cases bd with
  | a => exact State.firstPlans_length
  | b => exact (s.phaseCheck_spec State.firstPlans_length).2.length.trans State.firstPlans_length

theorem State.checked_trimmable (bd : Board) : Trimmable bd (s.trimOrder bd) (s.plansBefore bd) :=
  (s.phaseCheck_spec (s.plansBefore_length bd)).1

theorem State.checked_cut (bd : Board) : Cut (s.trimOrder bd) (s.plansBefore bd) (s.checked bd).1 :=
  (s.phaseCheck_spec (s.plansBefore_length bd)).2

variable {s} in
/-- A generator is on one board alone, so the check of the other passes it over. -/
theorem State.not_mem_trimOrder {bd q : Board} {g : Nat} (hg : g ∈ gensOf bd) (h : q ≠ bd) : g ∉ s.trimOrder q :=
  fun hq => h ((mem_gensOf.1 ((s.mem_trimOrder).1 hq).1).2.symm.trans (mem_gensOf.1 hg).2)

variable {s} in
theorem State.planOf_plansBefore {bd : Board} {g : Nat} (hg : g ∈ gensOf bd) :
    planOf (s.plansBefore bd) g = planOf (s.firstPlans s.grants) g := by
  cases bd with
  | a => rfl
  | b => exact (s.checked_cut .a).outside g (State.not_mem_trimOrder hg (by decide))

variable {s} in
theorem State.planOf_finalPlans {bd : Board} {g : Nat} (hg : g ∈ gensOf bd) :
    planOf s.finalPlans g = planOf (s.checked bd).1 g := by
  cases bd with
  | a => exact (s.checked_cut .b).outside g (State.not_mem_trimOrder hg (by decide))
  | b => rfl

/-- R129: both checks together change nothing of a plan but its slots, and add none. -/
theorem State.finalPlans_cut : Cut (s.trimOrder .a ++ s.trimOrder .b) (s.firstPlans s.grants) s.finalPlans :=
  (s.checked_cut .a).trans (s.checked_cut .b)

/-- R117: the planned figure is that of the final plans. -/
theorem State.checked_planned (bd : Board) : (s.checked bd).2.1 = plannedOn s.finalPlans bd := by
  have hcheck : (s.checked bd).2.1 = plannedOn (s.checked bd).1 bd := ((s.checked_trimmable bd).cut _ 0 rfl).2
  rw [hcheck, plannedOn, plannedOn]
  exact congrArg List.sum (List.map_congr_left fun g hg => by rw [State.planOf_finalPlans hg])

/-- R117: the removed count is that of the slots that the final plans lack. -/
theorem State.checked_removed (bd : Board) : (s.checked bd).2.2 = ((gensOf bd).map fun g =>
    (planOf (s.firstPlans s.grants) g).slots - (planOf s.finalPlans g).slots).sum := by
  have hcheck : (s.checked bd).2.2 = 0 + ((gensOf bd).map fun g =>
      (planOf (s.plansBefore bd) g).slots - (planOf (s.checked bd).1 g).slots).sum :=
    (s.checked_trimmable bd).removals rfl
  rw [hcheck, Nat.zero_add]
  exact congrArg List.sum
    (List.map_congr_left fun g hg => by rw [State.planOf_finalPlans hg, State.planOf_plansBefore hg])

variable {s} in
/-- R122, R124, R129: a generator with energy planned serves a pan of the demand order, so the check may cut it. -/
theorem State.powered_mem_trimOrder {bd : Board} {g : Nat} (hg : g ∈ gensOf bd)
    (h : (planOf (s.firstPlans s.grants) g).power ≠ 0) : g ∈ s.trimOrder bd := by
  obtain ⟨hshare, -, -⟩ := State.firstPlans_powered h
  obtain ⟨n, hn, -, hgrant⟩ := State.shareOf_pos hshare
  exact (s.mem_trimOrder).2 ⟨hg, n, State.mem_demand_of_granted hgrant, hn⟩

/-- R129: the planned figure lies within 16 times the budget: a check that ends above it has no slots left to remove. -/
theorem State.checked_within (bd : Board) : (s.checked bd).2.1 ≤ 16 * (s.phase (boardPhase bd)).budget := by
  have hlimited := (s.checked_trimmable bd).limited (limit := 16 * (s.phase (boardPhase bd)).budget) (removed := 0) rfl
  refine hlimited.elim id fun hnone => ?_
  have hzero : ∀ g ∈ gensOf bd, planEnergy s.finalPlans g = 0 := fun g hg => by
    by_cases hpower : (planOf (s.firstPlans s.grants) g).power = 0
    · rw [planEnergy, s.finalPlans_cut.power, hpower, Nat.mul_zero]
    · have hslots : (planOf (s.checked bd).1 g).slots = 0 := hnone g (State.powered_mem_trimOrder hg hpower)
      rw [planEnergy, State.planOf_finalPlans hg, hslots, Nat.zero_mul]
  rw [s.checked_planned, plannedOn_eq, List.sum_eq_zero]
  · exact Nat.zero_le _
  · simpa using hzero

/-! ### What the share computation writes (R117) -/

theorem State.shareComputation_alloc : s.shareComputation.alloc =
    { l1 := phaseAlloc s.mains.l1.budget (grantedOn s.grants .a) (s.checked .a).2.1 (s.checked .a).2.2
      l2 := phaseAlloc s.mains.l2.budget (grantedOn s.grants .b) (s.checked .b).2.1 (s.checked .b).2.2 } := by
  unfold State.shareComputation
  simp only [State.sendDriveOrder_frame, State.captureAll_frame]
  rfl

theorem State.shareComputation_mains : s.shareComputation.mains = { s.mains with
    l1 := { s.mains.l1 with planned := (s.checked .a).2.1 }
    l2 := { s.mains.l2 with planned := (s.checked .b).2.1 } } := by
  unfold State.shareComputation
  simp only [State.sendDriveOrder_frame, State.captureAll_frame]
  rfl

/-- R122, R129: a share computation keeps the budgets, whatever stood before it. -/
theorem State.shareComputation_budgets : BudgetsKept s.shareComputation := by
  have hplanned := s.checked_within
  have hgranted : ∀ bd, grantedOn s.grants bd ≤ (s.phase (boardPhase bd)).budget := fun bd =>
    (grantedOn_le _ _ _ _ bd).trans_eq (by cases bd <;> rfl)
  unfold BudgetsKept
  rw [State.shareComputation_alloc, State.shareComputation_mains]
  exact ⟨hplanned .a, hplanned .b, Nat.add_sub_cancel' (hgranted .a), Nat.add_sub_cancel' (hgranted .b), hplanned .a,
    hplanned .b⟩

end

end Sys2Proof.Machine
end

section
/-! PROOFS. Every command keeps the phase budgets (R117, R122, R129): a frame start computes them anew, a reset clears
them, and nothing else moves a budget, a planned figure or the allocation record. -/

namespace Sys2Proof.Machine

open Sys2Proof.Safety

/-- The budgets kept in `s` are kept in `t`. -/
def Budgeted (s t : State) : Prop := BudgetsKept s → BudgetsKept t

section
variable {s t u : State}

theorem Budgeted.refl : Budgeted s s := id

theorem Budgeted.trans (h : Budgeted s t) (h' : Budgeted t u) : Budgeted s u := h' ∘ h

theorem Budgeted.after (h' : Budgeted t u) (h : Budgeted s t) : Budgeted s u := h.trans h'

/-- Where the phase records and the allocation record stand. -/
theorem Budgeted.of_eq (hm : t.mains = s.mains := by simp) (ha : t.alloc = s.alloc := by simp) : Budgeted s t := by
  unfold Budgeted BudgetsKept; rw [hm, ha]; exact id

end

section
variable (s : State)

/-! ### The mains (R2 to R12, R98, R110) -/

/-- A phase record rewritten, its budget and its planned figure standing. -/
theorem State.modPhase_budgeted (ph : Phase) {f : PhaseRec → PhaseRec}
    (hf : ∀ r, (f r).budget = r.budget ∧ (f r).planned = r.planned) : Budgeted s (s.modPhase ph f) := by
  unfold Budgeted BudgetsKept
  cases ph <;> simp only [State.modPhase, hf] <;> exact id

theorem State.modFrame_budgeted (f : FrameRec → FrameRec) : Budgeted s (s.modFrame f) := id

theorem State.trackingPoint_budgeted : Budgeted s s.trackingPoint := .of_eq

theorem State.leaveForStandby_budgeted : Budgeted s s.leaveForStandby := .of_eq

theorem State.frameStart_budgeted : Budgeted s s.frameStart := fun _ => State.shareComputation_budgets _

theorem State.freeFrame_budgeted : Budgeted s s.freeFrame := State.frameStart_budgeted _ ∘ s.modFrame_budgeted _

theorem State.syncedFrame_budgeted : Budgeted s s.syncedFrame := State.frameStart_budgeted _ ∘ s.modFrame_budgeted _

theorem State.freeExpired_budgeted : Budgeted s s.freeExpired := by
  unfold State.freeExpired
  split
  · exact s.modFrame_budgeted _
  · exact s.freeFrame_budgeted

theorem State.trackExpired_budgeted : Budgeted s s.trackExpired :=
  (s.modFrame_budgeted _).trans (State.trackingPoint_budgeted _)

theorem State.l1Lost_budgeted : Budgeted s s.l1Lost := by
  unfold State.l1Lost
  dsimp only
  (repeat' split)
  · exact s.leaveForStandby_budgeted
  · exact (State.freeFrame_budgeted _).after .of_eq
  · exact ((State.freeFrame_budgeted _).trans (State.leaveForStandby_budgeted _)).after (.of_eq rfl rfl)
  · exact s.freeFrame_budgeted

theorem State.l1Changed_budgeted (before : Sync) : Budgeted s (s.l1Changed before) := by
  unfold State.l1Changed
  (repeat' split)
  · exact .of_eq
  · exact s.l1Lost_budgeted
  · exact .refl

theorem absentSync_budget (r : PhaseRec) : (absentSync r).budget = r.budget ∧ (absentSync r).planned = r.planned :=
  ⟨rfl, rfl⟩

theorem edgeSync_budget (now : Nat) (r : PhaseRec) :
    (edgeSync now r).budget = r.budget ∧ (edgeSync now r).planned = r.planned := by
  unfold edgeSync acquiringEdge validEdge
  dsimp only
  (repeat' split) <;> exact ⟨rfl, rfl⟩

theorem State.edgeExpired_budgeted (ph : Phase) : Budgeted s (s.edgeExpired ph) := by
  unfold State.edgeExpired
  cases ph with
  | l1 => exact (s.modPhase_budgeted .l1 absentSync_budget).trans (State.l1Changed_budgeted _ _)
  | l2 => exact s.modPhase_budgeted .l2 absentSync_budget

theorem State.frameEdge_budgeted : Budgeted s s.frameEdge := by
  unfold State.frameEdge
  dsimp only
  (repeat' split)
  · exact .refl
  · exact s.syncedFrame_budgeted
  · exact s.syncedFrame_budgeted
  · exact (s.modFrame_budgeted _).trans (State.trackingPoint_budgeted _)
  · exact s.modFrame_budgeted _

theorem State.edgeTaken_budgeted (ph : Phase) : Budgeted s (s.edgeTaken ph) := by
  unfold State.edgeTaken
  cases ph with
  | l1 =>
    have hchanged := (s.modPhase_budgeted .l1 (edgeSync_budget s.now)).trans
      (State.l1Changed_budgeted _ (s.phase .l1).sync)
    dsimp only
    split
    · exact hchanged.trans (State.frameEdge_budgeted _)
    · exact hchanged
  | l2 => exact s.modPhase_budgeted .l2 (edgeSync_budget s.now)

/-! ### The boards (R98, R110, R138) -/

theorem takeVoltage_budget (v : Nat) (r : PhaseRec) :
    (PhaseRec.takeVoltage v r).budget = r.budget ∧ (PhaseRec.takeVoltage v r).planned = r.planned := by
  unfold PhaseRec.takeVoltage; split <;> exact ⟨rfl, rfl⟩

theorem State.takenValues_budgeted (bd : Board) (r : BoardReport) :
    Budgeted s ((s.takeGenFields bd r).modBoard bd fun x => { x with lastReport := some r }) := .of_eq

theorem State.takeValues_budgeted (bd : Board) (r : BoardReport) : Budgeted s (s.takeValues bd r) := by
  have hrest : ∀ t : State, Budgeted t (((t.modPhase (boardPhase bd) (PhaseRec.takeVoltage r.voltage)).takeGenFields bd
      r).modBoard bd fun x => { x with lastReport := some r }) := fun t =>
    (State.takenValues_budgeted _ bd r).after (t.modPhase_budgeted _ (takeVoltage_budget r.voltage))
  unfold State.takeValues
  dsimp only
  split
  · exact hrest _
  · exact (hrest _).after .of_eq

theorem State.takeReport_budgeted (bd : Board) (r : BoardReport) : Budgeted s (s.takeReport bd r) := by
  rw [State.takeReport_eq]
  split
  · exact (State.takeValues_budgeted _ bd r).after .of_eq
  · exact s.takeValues_budgeted bd r

theorem State.reportFrame_budgeted (bd : Board) (f : Frame) : Budgeted s (s.reportFrame bd f) := by
  unfold State.reportFrame
  dsimp only
  (repeat' split)
  · exact .of_eq
  · exact .of_eq
  · exact (State.takeReport_budgeted _ bd _).after .of_eq
  · exact .of_eq
  · exact .refl

theorem State.boardLost_budgeted (bd : Board) : Budgeted s (s.boardLost bd) := by
  have hvoltage : ∀ t : State, Budgeted t ((t.modPhase (boardPhase bd) PhaseRec.loseVoltage).capture .linkLost) :=
    fun t => (t.modPhase_budgeted _ (f := PhaseRec.loseVoltage) fun _ => ⟨rfl, rfl⟩).trans (.of_eq rfl rfl)
  have habort : ∀ t : State, Budgeted t (t.abortSurvey .abortedBoard) := fun _ => .of_eq
  unfold State.boardLost
  dsimp only
  split
  · exact (hvoltage _).after .of_eq
  · exact ((hvoltage _).trans (habort _)).after .of_eq

theorem State.boardExpiry_budgeted (bd : Board) : Budgeted s (s.boardExpiry bd) := by
  unfold State.boardExpiry
  split
  · exact .of_eq
  · exact (s.boardLost_budgeted bd).trans .of_eq
  all_goals exact .refl

theorem State.loseAbsent_budgeted (bd : Board) : Budgeted s (s.loseAbsent bd) := by
  unfold State.loseAbsent; split <;> [exact s.boardLost_budgeted bd; exact .refl]

theorem State.startExpired_budgeted : Budgeted s s.startExpired := by
  have hstop : Budgeted s s.stopStartTimer := .of_eq
  rw [State.startExpired_eq]
  exact ((hstop.trans (State.loseAbsent_budgeted _ .a)).trans (State.loseAbsent_budgeted _ .b)).trans .of_eq

/-! ### The resets (R15, R136, R147) -/

theorem State.beginReset_budgeted (cause : ResetCause) : Budgeted s (s.beginReset cause) := by
  unfold State.beginReset
  split
  · exact .of_eq rfl rfl
  · intro _
    show BudgetsKept s.toResetValues
    simp [BudgetsKept, State.toResetValues, Mains.initial, PhaseRec.initial, PhaseAlloc.initial]

theorem State.endReset_budgets (r : Resetting) : BudgetsKept (s.endReset r) := State.shareComputation_budgets _

end

/-! ### Frames taken and expiries -/

section
variable {s : State}

theorem Budgeted.expire {f : State → State} {timer : Timer} (h : ∀ u, Budgeted u (f u)) :
    Budgeted s (s.expire timer f) :=
  State.expire_keeps (Inv := Budgeted s) .refl fun _ _ => Budgeted.trans .of_eq (h _)

theorem Budgeted.unlessReset {f : State → State} (h : Budgeted s (f s)) : Budgeted s (s.unlessReset f) :=
  State.unlessReset_keeps (Inv := Budgeted s) .refl fun _ => h

theorem Budgeted.serve {p : Partner} {req : Request} {body : List Byte → State → Served}
    (h : ∀ b u, Budgeted u (body b u).state) : Budgeted s (s.serve p req body) :=
  State.serve_keeps (Inv := Budgeted s) .refl (fun _ => .of_eq) (fun b _ hk => hk.trans (h b _))
    fun _ _ _ _ hk => hk.trans .of_eq

theorem Budgeted.takeBoardFrame {bd : Board} {kind : Byte} {act : Frame → State → State}
    (h : ∀ f u, Budgeted u (act f u)) : Budgeted s (s.takeBoardFrame bd kind act) := by
  obtain hs | ⟨f, rest, -, -, -, hs⟩ := s.takeBoardFrame_cases bd kind act
  · rw [hs]; exact .refl
  · rw [hs]; exact Budgeted.trans .of_eq (h f _)

theorem Budgeted.takePartnerFrame {p : Partner} {want : Byte → Bool} {act : Frame → State → State}
    (h : ∀ f u, Budgeted u (act f u)) : Budgeted s (s.takePartnerFrame p want act) := by
  obtain hs | ⟨f, rest, -, -, hs⟩ := s.takePartnerFrame_cases p want act
  · rw [hs]; exact .refl
  · rw [hs]; split <;> [exact .of_eq; exact Budgeted.trans .of_eq (h f _)]

/-! ### Commands -/

/-- The command with the outcome `x` completes and keeps the budgets. -/
def Budgets (s : State) (x : Host.Outcome State Fault Refusal) : Prop := ∃ t, x = .next t ∧ Budgeted s t

theorem Budgets.unlessReset {f : State → State} (h : ∀ u, Budgeted u (f u)) : Budgets s (.next (s.unlessReset f)) :=
  ⟨_, rfl, .unlessReset (h s)⟩

theorem Budgets.expiry {f : State → State} {timer : State → Timer} (h : ∀ u, Budgeted u (f u)) :
    Budgets s (.next (s.unlessReset fun t => t.expire (timer t) f)) := .unlessReset fun _ => .expire h

/-- An answer in whose state the phase records and the allocation record of `u` stand. -/
structure Steady (u : State) (r : Served) : Prop where
  mains : r.state.mains = u.mains
  alloc : r.state.alloc = u.alloc

theorem Steady.refuse {u : State} {r : Reply} : Steady u (refuse r u) := ⟨rfl, rfl⟩

theorem Steady.accept {t u : State} (hm : t.mains = u.mains := by simp) (ha : t.alloc = u.alloc := by simp) :
    Steady u (accept t) := ⟨hm, ha⟩

/-- No request moves the phase records or the allocation record. -/
theorem Budgets.serve {p : Partner} {req : Request} {body : List Byte → State → Served}
    (h : ∀ b u, Steady u (body b u)) : Budgets s (.next (s.unlessReset (State.serve p req body))) :=
  .unlessReset fun _ => .serve fun b u => .of_eq (h b u).mains (h b u).alloc

/-- A read answers and changes nothing. -/
theorem Budgets.read {p : Partner} {req : Request} {body : List Byte → State → Served}
    (h : ∀ b u, (body b u).state = u) : Budgets s (.next (s.unlessReset (State.serve p req body))) :=
  .serve fun b u => ⟨by rw [h], by rw [h]⟩

theorem execZeroCrossEdge_budgets (ph : Phase) (wait : Nat) : Budgets s (execZeroCrossEdge ph wait s) := by
  refine ⟨_, rfl, ?_⟩
  split
  · exact .of_eq
  · have hlate : Budgeted s (if s.edgeOverdue ph (s.now + wait) then
        s.expire (s.phase ph).edgeTimer (State.edgeExpired ph) else s) := by
      split
      · exact .expire fun u => u.edgeExpired_budgeted ph
      · exact .refl
    have helapse : ∀ t : State, Budgeted t (t.elapseTo (s.now + wait)) := fun _ => .of_eq
    exact (hlate.trans (helapse _)).trans (State.edgeTaken_budgeted _ ph)

theorem execResetEnd_budgets : Budgets s (execResetEnd s) := by
  refine ⟨_, rfl, ?_⟩
  split
  · exact .refl
  · exact fun _ => s.endReset_budgets _

theorem State.takeRow_steady (row : Nat) (values : List Nat) : Steady s (s.takeRow row values) := by
  unfold State.takeRow
  dsimp only
  split <;> exact ⟨rfl, rfl⟩

theorem State.takeWrite_steady (id v : Nat) (range : Nat × Nat) : Steady s (s.takeWrite id v range) := by
  rw [State.takeWrite_eq]; exact ⟨by simp, by simp⟩

theorem State.elapse_budgeted (dt : Nat) : Budgeted s (s.elapse dt) := .of_eq

theorem State.elapseTo_budgeted (t : Nat) : Budgeted s (s.elapseTo t) := .of_eq

theorem execRecallExpiry_budgets (i : Nat) : Budgets s (execRecallExpiry i s) := by
  have hrecalls : ∀ (t : State) l, Budgeted t { t with recalls := l } := fun _ _ => .of_eq
  refine .unlessReset fun u => ?_
  split
  · exact .refl
  · exact (State.elapseTo_budgeted _).trans (hrecalls _ _)

theorem execBoostExpiry_budgets (n : Nat) : Budgets s (execBoostExpiry n s) := by
  have hpan : ∀ t : State, Budgeted t ((t.modPan n Pan.endBoost).capture .boostEnded) := fun _ => .of_eq
  refine .unlessReset fun u => ?_
  (repeat' split)
  · exact .refl
  · exact (State.elapse_budgeted _).trans (hpan _)
  · exact .refl

end

/-! ### Every command and every step -/

theorem exec_budgets (c : Instr) (s : State) : Budgets s (exec c s) := by
  cases c with
  | zeroCrossEdge ph wait => exact execZeroCrossEdge_budgets ph wait
  | edgeTimerExpiry ph => exact .expiry fun u => u.edgeExpired_budgeted ph
  | freeFrameExpiry => exact .expiry State.freeExpired_budgeted
  | trackingTimerExpiry => exact .expiry State.trackExpired_budgeted
  | powerOn => exact ⟨_, rfl, s.beginReset_budgeted .powerOn⟩
  | resetLine => exact ⟨_, rfl, s.beginReset_budgeted .resetLine⟩
  | resetEnd => exact execResetEnd_budgets
  | softResetStart =>
    exact .unlessReset fun u => by
      split
      · exact u.beginReset_budgeted _
      · exact .refl
  | frameArrival l kind tag payload => exact .unlessReset fun u => by dsimp only; split <;> exact .of_eq
  | byteGapTimeout l => exact .expiry fun _ => .of_eq
  | linkPresenceExpiry p => exact .expiry fun _ => .of_eq
  | boardPresenceExpiry bd => exact .expiry fun u => u.boardExpiry_budgeted bd
  | sendFrame p => exact .unlessReset fun _ => .of_eq
  | unknownKind p => exact .unlessReset fun _ => .takePartnerFrame fun _ _ => .of_eq
  | hello p => exact .read fun _ _ => rfl
  | readStatus p => exact .read fun _ _ => by (repeat' split) <;> rfl
  | readPans p => exact .read fun _ _ => by dsimp only; split <;> rfl
  | readCoils p => exact .read fun _ _ => by dsimp only; split <;> rfl
  | readGenerators p => exact .read fun _ _ => by (repeat' split) <;> rfl
  | readEvents p => exact .read fun _ _ => rfl
  | clearEvents p => exact .serve fun _ _ => by split <;> [exact .refuse; exact .accept]
  | setEventEnable p => exact .serve fun _ _ => by split <;> [exact .refuse; exact .accept]
  | readTable p => exact .read fun _ _ => by dsimp only; (repeat' split) <;> rfl
  | readSettings p => exact .read fun _ _ => by (repeat' split) <;> rfl
  | setLevel p => exact .serve fun _ _ => by split <;> [exact .refuse; exact .accept]
  | allOff p => exact .serve fun _ _ => by split <;> exact .accept
  | setRemotePermit p => exact .serve fun _ _ => by (repeat' split) <;> [exact .refuse; exact .refuse; exact .accept]
  | pause p => exact .serve fun _ _ => by (repeat' split) <;> [exact .refuse; exact .accept; exact .accept]
  | resume p => exact .serve fun _ _ => by (repeat' split) <;> [exact .refuse; exact .accept; exact .accept]
  | activate p => exact .serve fun _ _ => by split <;> [exact .refuse; exact .accept]
  | deactivate p =>
    exact .serve fun _ _ => by
      split <;> [exact .accept; exact .accept; exact .refuse; exact .refuse; exact .refuse]
  | softReset p => exact .unlessReset fun _ => .takePartnerFrame fun _ _ => by dsimp only; split <;> exact .of_eq
  | surveyStart p => exact .serve fun _ _ => by split <;> [exact .refuse; exact .accept]
  | surveySuspend p => exact .serve fun _ _ => by split <;> [exact .refuse; exact .accept]
  | surveyResume p =>
    exact .serve fun _ _ => by
      (repeat' split) <;> [exact .refuse; exact .refuse; exact .accept; exact .accept]
  | surveyAbort p => exact .serve fun _ _ => by split <;> [exact .refuse; exact .accept]
  | writeShowroomRow p =>
    exact .serve fun _ _ => by
      (repeat' split) <;> [exact .refuse; exact .refuse; exact .refuse; exact State.takeRow_steady _ _]
  | writeSetting p =>
    exact .serve fun _ _ => by
      (repeat' split) <;> [exact .refuse; exact .refuse; exact .refuse; exact State.takeWrite_steady _ _ _]
  | writeLevelTable p =>
    exact .serve fun _ _ => by
      dsimp only
      (repeat' split) <;> [exact .refuse; exact .accept; exact .refuse]
  | storeSettings p => exact .serve fun _ _ => by split <;> [exact .refuse; exact .accept]
  | setExclusion p =>
    exact .serve fun _ _ => by
      (repeat' split) <;> [exact .refuse; exact .refuse; exact .refuse; exact .accept]
  | lockExclusion p => exact .serve fun _ _ => by split <;> [exact .refuse; exact .accept]
  | boardHello bd => exact .unlessReset fun _ => .takeBoardFrame fun _ _ => .of_eq
  | report bd => exact .unlessReset fun _ => .takeBoardFrame fun f u => u.reportFrame_budgeted bd f
  | stopConfirm bd => exact .unlessReset fun _ => .takeBoardFrame fun _ _ => .of_eq
  | stopTimerExpiry g => exact .expiry fun _ => .of_eq
  | lineDownTimerExpiry bd => exact .expiry fun _ => .of_eq
  | retryTimerExpiry g => exact .unlessReset fun _ => by split <;> exact .of_eq
  | chainTransferComplete readback => exact .unlessReset fun _ => by (repeat' split) <;> exact .of_eq
  | settleTimerExpiry => exact .expiry fun _ => .of_eq
  | recallExpiry i => exact execRecallExpiry_budgets i
  | boostExpiry n => exact execBoostExpiry_budgets n
  | pauseTimerExpiry => exact .expiry fun _ => .of_eq
  | autoOffExpiry => exact .expiry fun _ => .of_eq
  | startTimerExpiry => exact .expiry State.startExpired_budgeted
  | suspendTimerExpiry => exact .expiry fun _ => .of_eq
  | storeComplete => exact .unlessReset fun _ => by split <;> exact .of_eq
  | byteReceived l byte => exact .unlessReset fun _ => by split <;> exact .of_eq

/-- Settles O15: the budgets and the planned figures move at a frame start alone, which grants within the budget and
removes slots down to 16 times the budget, and at a reset, which clears them. -/
theorem phaseBudgetsKept : Obligations.PhaseBudgetsKept := fun _ _ hs h =>
  step_keeps (Inv := BudgetsKept) (fun _ _ => id) (fun c s t hk he => by
    obtain ⟨u, hu, hbudgeted⟩ := exec_budgets c s
    cases hu.symm.trans he; exact hbudgeted hk) (fun _ => Budgeted.of_eq) hs h

end Sys2Proof.Machine
end

section
/-! PROOFS. The stages of the share computation in the statement's own words (R118 to R124): contributing coils, usable
generators, requests, grants and shares. -/

namespace Sys2Proof.Machine

open Sys2Proof.Safety

/-! ### Contributing coils and usable generators (R118) -/

/-- R31: a routed coil's generator serves a pan of the table in whose footprint the coil lies. -/
theorem State.routed_iff {s : State} {c : Nat} : s.routed c = true ↔
    ∃ g n p, (s.coil c).latched = some g ∧ (s.gen g).pan = some n ∧ findPan s.pans n = some p ∧ c ∈ p.footprint := by
  unfold State.routed
  cases hl : (s.coil c).latched with
  | none => simp
  | some g => cases hn : (s.gen g).pan with
    | none => simp [hn]
    | some n => cases hp : findPan s.pans n with
      | none => simp [hn, hp]
      | some p => simp [hn, hp]

theorem State.driveView_routed {s : State} {c : Nat} :
    s.driveView c = .routed ↔ (s.coil c).excluded = false ∧ s.routed c = true := by
  unfold State.driveView
  dsimp only
  (repeat' split) <;> simp_all

/-- R118: a contributing coil of a pan of the table. -/
theorem State.contributes_iff {s : State} {p : Pan} (hp : findPan s.pans p.number = some p) {c : Nat} :
    s.contributes p.number c = true ↔ (∃ g, (s.coil c).latched = some g ∧ (s.gen g).pan = some p.number) ∧
      c ∈ p.footprint ∧ (s.coil c).excluded = false ∧ (s.coil c).hot = false ∧ (s.coil c).temp.isSome = true := by
  simp only [State.contributes, Bool.and_eq_true, decide_eq_true_eq, State.driveView_routed, State.routed_iff,
    Option.any_eq_true, Bool.not_eq_true']
  constructor
  · rintro ⟨⟨⟨⟨hx, g, n, q, hg, hn, hq, hc⟩, g', hg', hn'⟩, hhot⟩, ht⟩
    obtain rfl : g = g' := Option.some.inj (hg.symm.trans hg')
    obtain rfl : n = p.number := Option.some.inj (hn.symm.trans hn')
    obtain rfl : q = p := Option.some.inj (hq.symm.trans hp)
    exact ⟨⟨g, hg, hn⟩, hc, hx, hhot, ht⟩
  · rintro ⟨⟨g, hg, hn⟩, hc, hx, hhot, ht⟩
    exact ⟨⟨⟨⟨hx, g, p.number, p, hg, hn, hp, hc⟩, g, hg, hn⟩, hhot⟩, ht⟩

theorem mem_contributors {s : State} {p : Pan} {c : Nat} : c ∈ contributors s p ↔
    c < 48 ∧ (∃ g, (s.coil c).latched = some g ∧ (s.gen g).pan = some p.number) ∧ c ∈ p.footprint ∧
      (s.coil c).excluded = false ∧ (s.coil c).hot = false ∧ (s.coil c).temp.isSome = true := by
  simp only [contributors, List.mem_filter, List.mem_range, Bool.and_eq_true, decide_eq_true_eq, Bool.not_eq_true']
  cases (s.coil c).latched <;> simp [and_assoc]

/-- A pan of a sound table: found under its number, on coils of the surface. -/
structure Listed (s : State) (p : Pan) : Prop where
  found : findPan s.pans p.number = some p
  coils : ∀ c ∈ p.footprint, c < 48

theorem findPan_of_mem {pans : List Pan} (h : (pans.map fun p => p.number).Pairwise (· < ·)) {p : Pan}
    (hp : p ∈ pans) : findPan pans p.number = some p := by
  induction pans with
  | nil => exact absurd hp List.not_mem_nil
  | cons q rest ih =>
    obtain ⟨hq, hrest⟩ := List.pairwise_cons.1 h
    rcases List.mem_cons.1 hp with rfl | hp
    · simp [findPan]
    · have hlt : q.number < p.number := hq _ (List.mem_map_of_mem hp)
      rw [findPan, List.find?_cons_of_neg (by simpa using hlt.ne)]
      exact ih hrest hp

section
variable {s : State} {p : Pan}

theorem Listed.contributes (h : Listed s p) (c : Nat) : s.contributes p.number c = decide (c ∈ contributors s p) := by
  rw [Bool.eq_iff_iff, State.contributes_iff h.found, decide_eq_true_iff, mem_contributors]
  exact ⟨fun hc => ⟨h.coils c hc.2.1, hc⟩, fun hc => hc.2⟩

theorem Listed.contributing (h : Listed s p) : s.contributing p.number = contributors s p := by
  have hmem : contributors s p = (List.range 48).filter fun c => decide (c ∈ contributors s p) := by
    unfold contributors
    exact List.filter_congr fun c hc => by simp only [List.mem_filter, hc, true_and, Bool.decide_eq_true]
  rw [State.contributing, hmem]
  exact List.filter_congr fun c _ => h.contributes c

theorem GenState.ready_iff {x : GenState} : x.ready = true ↔ x = .armed ∨ x = .running := by
  cases x <;> simp [GenState.ready]

theorem Listed.usable (h : Listed s p) (g : Nat) : s.usable p.number g = usableFor s p g := by
  have hready : (s.gen g).state.ready = decide ((s.gen g).state = .armed ∨ (s.gen g).state = .running) := by
    rw [Bool.eq_iff_iff, GenState.ready_iff, decide_eq_true_iff]
  simp only [State.usable, usableFor, State.heats, State.boardDrives, h.found, Option.any_some, hready,
    funext h.contributes]

theorem Listed.usableOn (h : Listed s p) (bd : Board) : s.usableOn p.number bd = usableHere s p bd :=
  List.filter_congr fun g _ => h.usable g

theorem coilWeight_eq (s : State) (c : Nat) : (s.coil c).cls.weight = coilWeight s c := by
  unfold coilWeight; cases (s.coil c).cls <;> rfl

theorem genWeight_eq (s : State) : s.genWeight = loadWeight s := by
  funext g; simp only [State.genWeight, loadWeight, coilWeight_eq]

theorem Listed.panWeight (h : Listed s p) (bd : Board) : s.panWeight p.number bd = sideWeight s p bd := by
  rw [State.panWeight, sideWeight, h.usableOn, genWeight_eq]

/-! ### Requests (R119, R120) -/

theorem State.asks_iff : s.asks p = true ↔ MayAsk s p := by
  simp [State.asks, MayAsk, and_assoc]

theorem foldl_max_spec {l : List Nat} (h : l ≠ []) : l.foldl max 0 ∈ l ∧ ∀ x ∈ l, x ≤ l.foldl max 0 := by
  obtain ⟨m, hm⟩ := Option.ne_none_iff_exists'.1 (mt List.max?_eq_none_iff.1 h)
  rw [List.foldl_max, hm, Option.getD_some, Nat.zero_max]
  exact List.max?_eq_some_iff.1 hm

theorem foldl_max_eq {l : List Nat} {m : Nat} (hm : m ∈ l) (h : ∀ x ∈ l, x ≤ m) : l.foldl max 0 = m := by
  rw [List.foldl_max, List.max?_eq_some_iff.2 ⟨hm, h⟩, Option.getD_some, Nat.zero_max]

theorem Listed.capOf (h : Listed s p) : CapIs s p (s.capOf p.number) := by
  have hbase :
      ((contributors s p).map fun c => coilRating s.store.settings.rating (s.coil c).cls).sum = baseCap s p := by
    unfold baseCap
    exact congrArg List.sum (List.map_congr_left fun c _ => by cases (s.coil c).cls <;> rfl)
  unfold State.capOf
  simp only [h.contributing, hbase]
  refine ⟨fun hnone => by simp [hnone], fun hottest ⟨c, hc, hct⟩ hmax => ?_⟩
  have hne : (contributors s p).isEmpty = false := by simpa using List.ne_nil_of_mem hc
  have hmost : ((contributors s p).map fun c => (s.coil c).temp.getD 0).foldl max 0 = hottest :=
    foldl_max_eq (List.mem_map.2 ⟨c, hc, by simp [hct]⟩) fun v hv => by
      obtain ⟨d, hd, rfl⟩ := List.mem_map.1 hv
      obtain ⟨-, -, -, -, -, htemp⟩ := mem_contributors.1 hd
      obtain ⟨w, hw⟩ := Option.isSome_iff_exists.1 htemp
      simpa [hw] using hmax d hd w hw
  simp only [hne, hmost, thermalCap, Bool.false_eq_true, if_false]
  exact ⟨fun hcool => if_pos hcool, fun hwarm => if_neg (Nat.not_lt.2 hwarm)⟩

theorem Listed.requestMade (h : Listed s p) : RequestMade s p (s.frameCap p) (s.requestOf p) := by
  unfold RequestMade State.requestOf State.frameCap
  simp only [← State.asks_iff]
  exact ⟨fun ha => ⟨by rw [if_pos ha]; exact h.capOf, by rw [if_pos ha, if_pos ha]⟩,
    fun ha => ⟨if_neg ha, if_neg ha⟩⟩

theorem State.requestOf_le : s.requestOf p ≤ s.store.settings.power p.level ∧ s.requestOf p ≤ s.frameCap p := by
  unfold State.requestOf
  split
  · exact ⟨Nat.min_le_left _ _, Nat.min_le_right _ _⟩
  · exact ⟨Nat.zero_le _, Nat.zero_le _⟩

/-! ### Demands and grants (R121, R122) -/

theorem splitRequest_sum (request wA wB : Nat) :
    (splitRequest request wA wB).1 + (splitRequest request wA wB).2 ≤ request := by
  unfold splitRequest
  split
  · exact Nat.zero_le _
  · rename_i hw
    have : request * wA / (wA + wB) ≤ request :=
      Nat.div_le_of_le_mul (by rw [Nat.mul_comm]; exact Nat.mul_le_mul_right _ (by omega))
    dsimp only
    omega

theorem State.demandOf_found (hp : findPan s.pans p.number = some p) : s.demandOf p.number =
    splitRequest (s.requestOf p) (s.panWeight p.number .a) (s.panWeight p.number .b) := by
  simp [State.demandOf, hp]

theorem Listed.demandOf (h : Listed s p) (bd : Board) :
    sideOf bd (s.demandOf p.number) = sideDemand s p (s.requestOf p) bd := by
  rw [State.demandOf_found h.found, splitRequest, h.panWeight, h.panWeight]
  cases bd <;> unfold sideDemand <;> split <;> rfl

/-- R122: the grants of a pan come to no more than its request. -/
theorem State.grantOf_le (hp : findPan s.pans p.number = some p) : grantOf s.grants p.number ≤ s.requestOf p := by
  have hside := grantOn_le_demand s.demandOf s.levels.demand s.mains.l1.budget s.mains.l2.budget p.number
  have hsum := splitRequest_sum (s.requestOf p) (s.panWeight p.number .a) (s.panWeight p.number .b)
  rw [State.demandOf_found hp] at hside
  exact (Nat.add_le_add (hside .a) (hside .b)).trans hsum

section
variable (demand : Nat → Nat × Nat)

/-- R122: a pan is granted its demand within what the pans ahead of it leave of the budget. -/
theorem grantOn_grantWalk {order : List Nat} (hd : order.Nodup) {n : Nat} (hn : n ∈ order) (remA remB : Nat)
    (bd : Board) {grant : Nat → Nat}
    (hgrant : ∀ m ∈ order, grant m = grantOn (grantWalk demand order remA remB) m bd) :
    grant n = min (sideOf bd (demand n))
      (sideOf bd (remA, remB) - ((order.takeWhile fun m => decide (m ≠ n)).map grant).sum) := by
  induction order generalizing remA remB with
  | nil => exact absurd hn List.not_mem_nil
  | cons m rest ih =>
    obtain ⟨hm, hrest⟩ := List.nodup_cons.1 hd
    have hfront := hgrant m (List.mem_cons_self ..)
    rw [grantOn_grantWalk_cons, if_pos rfl] at hfront
    by_cases he : m = n
    · subst he; simp [hfront]
    · have hbehind : ∀ k ∈ rest, grant k = _ := fun k hk =>
        (hgrant k (.tail _ hk)).trans
          ((grantOn_grantWalk_cons ..).trans (if_neg (ne_of_mem_of_not_mem hk hm).symm))
      rw [ih hrest ((List.mem_cons.1 hn).resolve_left fun h => he h.symm) _ _ hbehind, sideOf_remaining,
        List.takeWhile_cons_of_pos (by simpa using he), List.map_cons, List.sum_cons, hfront, Nat.sub_sub]

theorem grantedOn_grantWalk {order : List Nat} (hd : order.Nodup) (remA remB : Nat) (bd : Board) :
    grantedOn (grantWalk demand order remA remB) bd =
      (order.map fun n => grantOn (grantWalk demand order remA remB) n bd).sum := by
  induction order generalizing remA remB with
  | nil => rfl
  | cons m rest ih =>
    obtain ⟨hm, hrest⟩ := List.nodup_cons.1 hd
    rw [grantedOn_grantWalk_cons, ih hrest, List.map_cons, List.sum_cons, grantOn_grantWalk_cons, if_pos rfl]
    exact congrArg _ (congrArg List.sum (List.map_congr_left fun k hk => by
      conv_rhs => rw [grantOn_grantWalk_cons, if_neg (ne_of_mem_of_not_mem hk hm).symm]))

end

/-- What a sound pan table gives the share computation: each pan is found under its number, on coils of the surface, and
stands once in the demand order. -/
structure Tabled (s : State) : Prop where
  listed : ∀ p ∈ s.pans, Listed s p
  nodup : s.levels.demand.Nodup
  demand : ∀ p ∈ s.pans, p.number ∈ s.levels.demand

theorem Tabled.of_sound (h : TableSound s) : Tabled s := by
  obtain ⟨hnumbers, -, hpans, -, hperm, -⟩ := h
  refine ⟨fun p hp => ?_, hperm.nodup_iff.2 (hnumbers.imp Nat.ne_of_lt), fun p hp => ?_⟩
  · obtain ⟨-, -, hcoils, -⟩ := hpans p hp
    exact ⟨findPan_of_mem hnumbers hp, hcoils⟩
  · exact hperm.mem_iff.2 (List.mem_map_of_mem hp)

end

end Sys2Proof.Machine
end

section
/-! PROOFS. What a share computation leaves, field by field (R112, R116, R123, R133), and the law on slots (R128). -/

namespace Sys2Proof.Machine

open Sys2Proof.Safety

section
variable (s : State)

/-! ### The computation as a whole (R112, R116) -/

theorem State.sendDriveOrder_eq (bd : Board) : s.sendDriveOrder bd = { s with
    out := s.out ++ if (s.boardLink bd).up = true then
      [.frame (boardLinkId bd) (frameBytes kindDriveOrder 0 (s.orderPayload bd))] else [] } := by
  unfold State.sendDriveOrder
  split
  · rfl
  · rw [List.append_nil]

/-- R133: the generators after the computation. -/
def State.sharedGens (s : State) : List Gen := (s.mapGens fun g x => (planOf s.finalPlans g).write g x).gens

/-- R119 to R123, R131: the pans after the computation. -/
def State.sharedPans (s : State) : List Pan := s.pans.map (s.panFigures s.grants s.finalPlans)

/-- R123: one capture of PAN_LIMITED for each pan whose limited field the computation changes. -/
def State.limitCaptures (s : State) : List Event :=
  ((s.pans.zip s.sharedPans).filter fun x => x.1.limited ≠ x.2.limited).map fun _ => .panLimited

/-- The payload of the drive order that the computation hands a board (R133). -/
def State.sharedOrder (s : State) (bd : Board) : List Byte :=
  (gensOf bd).flatMap fun g => orderEntry ((s.sharedGens[g]?).getD Gen.initial)

/-- The frame of that drive order, while the board is PRESENT or LATE (R112). -/
def State.sharedFrame (s : State) (bd : Board) : List Output :=
  if (s.boardLink bd).up = true then [.frame (boardLinkId bd) (frameBytes kindDriveOrder 0 (s.sharedOrder bd))] else []

/-- R116: every field that a share computation writes. -/
theorem State.shareComputation_eq : s.shareComputation = { s with
    gens := s.sharedGens, pans := s.sharedPans, alloc := s.shareComputation.alloc
    out := s.out ++ s.sharedFrame .a ++ s.sharedFrame .b
    links := linksWith s s.limitCaptures
    mains := { s.mains with
      l1 := { s.mains.l1 with planned := (s.checked .a).2.1 }
      l2 := { s.mains.l2 with planned := (s.checked .b).2.1 } } } := by
  rw [State.shareComputation_alloc]
  unfold State.shareComputation
  dsimp only
  rw [State.captureAll_eq, State.sendDriveOrder_eq, State.sendDriveOrder_eq]
  rfl

theorem State.shareComputation_sharedGens : s.shareComputation.gens = s.sharedGens := by
  rw [State.shareComputation_eq]

theorem State.shareComputation_sharedPans : s.shareComputation.pans = s.sharedPans := by
  rw [State.shareComputation_eq]

variable {s} in
/-- R133: a generator record after the computation. -/
theorem State.gen_shareComputation {g : Nat} (hg : g < s.gens.length) :
    s.shareComputation.gen g = (planOf s.finalPlans g).write g (s.gen g) := by
  rw [State.gen_congr (s := s.mapGens fun g x => (planOf s.finalPlans g).write g x) (s.shareComputation_sharedGens),
    State.gen_mapGens _ _ hg]

/-! ### The pans (R119 to R123) -/

theorem State.panFigures_frame (grants : List Grant) (plans : List GenPlan) (p : Pan) :
    let q := s.panFigures grants plans p
    q = { p with
      request := q.request, cap := q.cap, grant := q.grant, delivered := q.delivered, effective := q.effective,
      limited := p.starved || decide (q.grant < q.request) } := rfl

/-- R123: the level within a grant: at most 14, its power within the grant, and no higher level's power. -/
theorem levelWithin_spec (st : Settings) (grant : Nat) :
    levelWithin st grant ≤ 14 ∧ (0 < levelWithin st grant → st.power (levelWithin st grant) ≤ grant) ∧
      ∀ l, levelWithin st grant < l → l ≤ 14 → grant < st.power l := by
  have hdescend : ((List.range 14).reverse.map (· + 1)).Pairwise (· > ·) := by decide
  have hlevels : ∀ l, l ∈ (List.range 14).reverse.map (· + 1) ↔ 1 ≤ l ∧ l ≤ 14 := fun l => by
    simp only [List.mem_map, List.mem_reverse, List.mem_range]
    exact ⟨fun ⟨a, ha, he⟩ => by omega, fun h => ⟨l - 1, by omega, by omega⟩⟩
  unfold levelWithin
  cases hfind : ((List.range 14).reverse.map (· + 1)).find? fun l => decide (st.power l ≤ grant) with
  | none =>
    rw [List.find?_eq_none] at hfind
    refine ⟨Nat.zero_le _, fun h => absurd h (Nat.lt_irrefl _), fun l hl h14 => ?_⟩
    simpa using hfind l ((hlevels l).2 ⟨hl, h14⟩)
  | some m =>
    obtain ⟨hm, before, after, hsplit, hbefore⟩ := List.find?_eq_some_iff_append.1 hfind
    have hrange := (hlevels m).1 (List.mem_of_find?_eq_some hfind)
    refine ⟨hrange.2, fun _ => by simpa using hm, fun l hl h14 => ?_⟩
    rw [Option.getD_some] at hl
    have hmem : l ∈ before ++ m :: after := hsplit ▸ (hlevels l).2 ⟨by omega, h14⟩
    rw [hsplit, List.pairwise_append] at hdescend
    obtain ⟨-, hafter, -⟩ := hdescend
    obtain ⟨hafter, -⟩ := List.pairwise_cons.1 hafter
    rcases List.mem_append.1 hmem with hl' | hl'
    · simpa using hbefore l hl'
    · rcases List.mem_cons.1 hl' with rfl | hl'
      · omega
      · have := hafter l hl'; omega

/-- R119, R123: a pan's limited field and effective level. -/
theorem State.panFigures_levels (grants : List Grant) (plans : List GenPlan) (p : Pan) :
    let q := s.panFigures grants plans p
    (MayAsk s p →
      (q.limited = false → q.effective = p.level) ∧
      (q.limited = true → q.effective ≤ 14 ∧
        (0 < q.effective → s.store.settings.power q.effective ≤ q.grant) ∧
        ∀ l, q.effective < l → l ≤ 14 → q.grant < s.store.settings.power l)) ∧
    (¬MayAsk s p → q.request = 0 ∧ q.effective = 0) := by
  simp only [State.panFigures, effectiveLevel, ← State.asks_iff]
  refine ⟨fun ha => ⟨fun hl => ?_, fun hl => ?_⟩, fun ha => ⟨if_neg ha, if_neg ha⟩⟩
  · rw [if_pos ha, hl, if_neg Bool.false_ne_true]
  · rw [if_pos ha, hl, if_pos rfl]; exact levelWithin_spec _ _

/-! ### Drive orders (R112, R133, Table 12-4) -/

/-- Table 12-4: the three fields of a generator's entry: its command, its frequency and its pattern. -/
def orderFields (x : Gen) : Nat × Nat × Nat :=
  if x.state = .running then (3, x.ordered, x.pattern.toNat)
  else if x.state = .armed then (1, x.ordered, 0)
  else (0, 0, 0)

theorem orderEntry_eq (x : Gen) : orderEntry x =
    byteOf (orderFields x).1 :: (be2 (orderFields x).2.1 ++ be2 (orderFields x).2.2) := by
  unfold orderEntry orderFields
  (repeat' split) <;> rfl

theorem orderEntry_length (x : Gen) : (orderEntry x).length = 5 := by rw [orderEntry_eq]; rfl

/-- Where the entries of a list stand behind each other, five bytes each. -/
theorem getElem?_flatMap_five {f : Nat → List Byte} (hf : ∀ x, (f x).length = 5) {l : List Nat} {i g : Nat}
    (hg : l[i]? = some g) {j : Nat} (hj : j < 5) : (l.flatMap f)[5 * i + j]? = (f g)[j]? := by
  induction l generalizing i with
  | nil => simp at hg
  | cons x rest ih =>
    rw [List.flatMap_cons]
    cases i with
    | zero =>
      obtain rfl : x = g := by simpa using hg
      rw [List.getElem?_append_left (by rw [hf]; omega), Nat.mul_zero, Nat.zero_add]
    | succ i =>
      rw [List.getElem?_append_right (by rw [hf]; omega), hf, ← ih (by simpa using hg)]
      congr 1; omega

theorem sharedOrder_bytes (bd : Board) {g : Nat} (hg : g ∈ gensOf bd) (j : Nat) (hj : j < 5) :
    byteAt (s.sharedOrder bd) (5 * positionOf g + j) = byteAt (orderEntry ((s.sharedGens[g]?).getD Gen.initial)) j := by
  have hplace : ∀ bd, ∀ x ∈ gensOf bd, (gensOf bd)[positionOf x]? = some x := fun bd => by cases bd <;> decide
  rw [byteAt, State.sharedOrder, getElem?_flatMap_five (fun _ => orderEntry_length _) (hplace bd g hg) hj]; rfl

theorem numAt_be2 (b : Byte) (n m : Nat) : numAt (b :: (be2 n ++ be2 m)) 1 = n % 65536 ∧
    numAt (b :: (be2 n ++ be2 m)) 3 = m % 65536 := by
  have hword : ∀ x : Nat, 256 * (byteOf (x / 256)).toNat + (byteOf x).toNat = x % 65536 := fun x => by
    rw [byteOf, byteOf, BitVec.toNat_ofNat, BitVec.toNat_ofNat]; omega
  exact ⟨hword n, hword m⟩

end

/-- R112, R133: the payload of a drive order says what the computation leaves of each generator. -/
theorem State.sharedOrder_driveOrder (s : State) (bd : Board) :
    DriveOrder s.shareComputation bd (s.sharedOrder bd) := by
  refine ⟨?_, fun g hg hbd o ho => ?_⟩
  · cases bd <;> simp [State.sharedOrder, gensOf, orderEntry_length]
  have hgen : (s.sharedGens[g]?).getD Gen.initial = s.shareComputation.gen g := by
    rw [State.gen, State.shareComputation_sharedGens]
  have hbyte : ∀ j < 5, byteAt (s.sharedOrder bd) (o + j) = byteAt (orderEntry (s.shareComputation.gen g)) j := by
    rw [ho, ← hgen]; exact sharedOrder_bytes s bd (mem_gensOf.2 ⟨hg, hbd⟩)
  have hcode : byteAt (s.sharedOrder bd) o = (orderFields (s.shareComputation.gen g)).1 % 256 := by
    rw [show o = o + 0 from rfl, hbyte 0 (by decide), orderEntry_eq]; simp [byteAt, byteOf]
  obtain ⟨hfreq, hpattern⟩ := numAt_be2 (byteOf (orderFields (s.shareComputation.gen g)).1)
    (orderFields (s.shareComputation.gen g)).2.1 (orderFields (s.shareComputation.gen g)).2.2
  rw [← orderEntry_eq, numAt, ← hbyte 1 (by decide), ← hbyte 2 (by decide)] at hfreq
  rw [← orderEntry_eq, numAt, ← hbyte 3 (by decide), ← hbyte 4 (by decide)] at hpattern
  have hbits : (s.shareComputation.gen g).pattern.toNat % 65536 = (s.shareComputation.gen g).pattern.toNat :=
    Nat.mod_eq_of_lt (s.shareComputation.gen g).pattern.isLt
  simp only [numAt, hcode]
  refine ⟨fun hna hnr => ?_, fun ha => ?_, fun hr => ?_⟩
  · simp only [orderFields, if_neg hnr, if_neg hna] at hfreq hpattern ⊢
    exact ⟨by decide, hfreq, hpattern⟩
  · have hnr : (s.shareComputation.gen g).state ≠ .running := by simp [ha]
    simp only [orderFields, if_neg hnr, if_pos ha] at hfreq hpattern ⊢
    exact ⟨by decide, hfreq, hpattern⟩
  · simp only [orderFields, if_pos hr, hbits] at hfreq hpattern ⊢
    exact ⟨by decide, hfreq, hpattern⟩

/-! ### The captures (R123) -/

/-- R123: a capture is entered just where some limited field changes. -/
theorem State.limitCaptures_nil (s : State) :
    s.limitCaptures = [] ↔ s.sharedPans.map (fun p => p.limited) = s.pans.map (fun p => p.limited) := by
  unfold State.limitCaptures State.sharedPans
  generalize s.panFigures s.grants s.finalPlans = f
  induction s.pans with
  | nil => simp
  | cons p rest ih =>
    rw [List.map_eq_nil_iff] at ih ⊢
    simp only [List.map_cons, List.zip_cons_cons, List.cons.injEq, ← ih]
    by_cases h : p.limited = (f p).limited
    · simp [h]
    · simp [h, Ne.symm h]

theorem State.shareComputation_links (s : State) : s.shareComputation.links =
    if s.sharedPans.map (fun p => p.limited) = s.pans.map (fun p => p.limited) then s.links
    else linksWith s [.panLimited] := by
  rw [State.shareComputation_eq]
  split <;> rename_i h <;> rw [← State.limitCaptures_nil] at h
  · simp only [h]; rfl
  · exact linksWith_same (fun e he => by obtain ⟨-, -, rfl⟩ := List.mem_map.1 he; rfl) h s

/-! ### The generators (R124 to R133) -/

section
variable {s : State} {g : Nat}

theorem State.finalPlans_share (hg : g < 8) : (planOf s.finalPlans g).share = s.shareOf s.grants g := by
  rw [s.finalPlans_cut.rest g, State.planOf_firstPlans hg]
  exact State.allShares_getD hg

theorem State.finalPlans_ordered (hg : g < 8) :
    (planOf s.finalPlans g).ordered = s.orderedFreq (s.runSet (s.allShares s.grants)) g := by
  rw [s.finalPlans_cut.rest g, State.planOf_firstPlans hg]; rfl

theorem State.firstPlans_slots_le (hg : g < 8) : (planOf (s.firstPlans s.grants) g).slots ≤ 16 := by
  by_cases h : (planOf (s.firstPlans s.grants) g).power = 0
  · rw [State.firstPlans_slots h]; exact Nat.zero_le _
  · rw [State.planOf_firstPlans hg] at h ⊢
    exact (if_neg h).trans_le (Nat.min_le_left _ _)

theorem State.finalPlans_slots_pos (h : 0 < (planOf s.finalPlans g).slots) :
    (planOf (s.firstPlans s.grants) g).power ≠ 0 := fun h0 => by
  have hle := s.finalPlans_cut.slots g
  rw [State.firstPlans_slots h0] at hle
  omega

/-- R118, R124: only a generator ARMED or RUNNING has a share. -/
theorem State.ready_of_share (h : 0 < s.shareOf s.grants g) : (s.gen g).state.ready = true := by
  obtain ⟨n, -, husable, -⟩ := State.shareOf_pos h
  obtain ⟨hready, -⟩ := State.usable_iff.1 husable
  exact hready

/-- R133: a generator in any other state has no share, no slots and no residue, and keeps its ordered frequency. -/
theorem State.finalPlans_rest (hg : g < 8) (h : (s.gen g).state.ready = false) :
    (planOf s.finalPlans g).share = 0 ∧ (planOf s.finalPlans g).slots = 0 ∧ (planOf s.finalPlans g).residue = 0 ∧
      (planOf s.finalPlans g).ordered = (s.gen g).ordered := by
  have hshare : ¬0 < s.shareOf s.grants g := fun hpos => by simp [State.ready_of_share hpos] at h
  have hpower : (planOf (s.firstPlans s.grants) g).power = 0 := by
    by_contra hne; exact hshare (State.firstPlans_powered hne).1
  refine ⟨?_, ?_, ?_, ?_⟩
  · rw [State.finalPlans_share hg]; omega
  · by_contra hne; exact State.finalPlans_slots_pos (Nat.pos_of_ne_zero hne) hpower
  · exact if_pos ((s.finalPlans_cut.power g).trans hpower)
  · rw [State.finalPlans_ordered hg, State.orderedFreq, if_neg (by simp [h])]

/-- R132, R133: what the computation writes to a generator record. -/
theorem State.shareComputation_genFrame (h8 : s.gens.length = 8) (hg : g < 8) :
    ∀ x, x = s.shareComputation.gen g →
      x.slots ≤ 16 ∧ x.pattern = patternOf (positionOf g) x.slots ∧
      x = { s.gen g with
        state := x.state, ordered := x.ordered, share := x.share, slots := x.slots, residue := x.residue,
        pattern := x.pattern } ∧
      ((s.gen g).state = .armed ∨ (s.gen g).state = .running → x.state = if 0 < x.slots then .running else .armed) ∧
      ((s.gen g).state ≠ .armed → (s.gen g).state ≠ .running →
        x.state = (s.gen g).state ∧ x.ordered = (s.gen g).ordered ∧ x.share = 0 ∧ x.slots = 0 ∧
          x.residue = 0 ∧ x.pattern = 0) := by
  rintro x hx
  rw [State.gen_shareComputation (by omega)] at hx
  subst hx
  have hslots := (s.finalPlans_cut.slots g).trans (State.firstPlans_slots_le hg)
  refine ⟨hslots, rfl, rfl, fun hready => ?_, fun hna hnr => ?_⟩
  · exact if_pos (GenState.ready_iff.2 hready)
  · have hready : (s.gen g).state.ready = false := Bool.eq_false_iff.2 fun h => (GenState.ready_iff.1 h).elim hna hnr
    obtain ⟨hshare, hslots, hresidue, hordered⟩ := State.finalPlans_rest hg hready
    refine ⟨if_neg (by simp [hready]), hordered, hshare, hslots, hresidue, ?_⟩
    simp only [GenPlan.write, hslots, patternOf_zero]

/-- R128: slots come with a share, outside showroom mode. -/
theorem State.slots_pos (h : 0 < (planOf s.finalPlans g).slots) : s.store.settings.showroom = false ∧
    ∃ n, (s.gen g).pan = some n ∧ s.usable n g = true ∧ 0 < grantOn s.grants n (boardOf g) := by
  obtain ⟨hshare, -, hshowroom⟩ := State.firstPlans_powered (State.finalPlans_slots_pos h)
  exact ⟨hshowroom, State.shareOf_pos hshare⟩

/-- R119, R122: a grant goes to a pan of the table that asks. -/
theorem State.asks_of_granted {n : Nat} {bd : Board} (h : 0 < grantOn s.grants n bd) :
    ∃ p, findPan s.pans n = some p ∧ MayAsk s p := by
  have hdemand : 0 < sideOf bd (s.demandOf n) := Nat.lt_of_lt_of_le h (grantOn_le_demand _ _ _ _ _ _)
  unfold State.demandOf at hdemand
  cases hp : findPan s.pans n with
  | none => simp only [hp] at hdemand; cases bd <;> exact absurd hdemand (Nat.lt_irrefl 0)
  | some p =>
    refine ⟨p, rfl, State.asks_iff.1 (by_contra fun ha => ?_)⟩
    have hrequest : s.requestOf p = 0 := if_neg ha
    have hsum := splitRequest_sum 0 (s.panWeight n .a) (s.panWeight n .b)
    simp only [hp, hrequest] at hdemand
    cases bd <;> simp only [sideOf] at hdemand <;> omega

/-- R128: the law of the part on slots holds after every share computation. -/
theorem State.shareComputation_slotsAllowed (s : State) : SlotsAllowed s.shareComputation := by
  intro g hg hslots
  by_cases hlen : g < s.gens.length
  swap
  · have hnone : s.shareComputation.gens[g]? = none := by simpa using hlen
    rw [State.gen, hnone] at hslots
    exact absurd hslots (Nat.lt_irrefl 0)
  rw [State.gen_shareComputation hlen] at hslots ⊢
  have hpositive : 0 < (planOf s.finalPlans g).slots := hslots
  obtain ⟨hshowroom, n, hn, husable, hgrant⟩ := State.slots_pos hpositive
  obtain ⟨p, hp, hmode, hpause, hheating⟩ := State.asks_of_granted hgrant
  obtain ⟨hmem, rfl⟩ := findPan_some hp
  obtain ⟨hready, -, -, -, hcoils, hdrives⟩ := State.usable_iff.1 husable
  simp only [State.boardDrives, hshowroom, Bool.false_or, Bool.and_eq_true, decide_eq_true_eq] at hdrives
  obtain ⟨hlink, hline⟩ := hdrives
  rw [State.shareComputation_eq]
  refine ⟨hmode, hpause, hshowroom, ?_, hline, ?_, s.panFigures s.grants s.finalPlans p, List.mem_map_of_mem hmem, hn,
    hheating, fun c hc => ?_⟩
  · rw [← hlink]; cases boardOf g <;> rfl
  · simp only [GenPlan.write, hready, hpositive, if_true]
  · obtain ⟨-, hfootprint, -, hhot, -⟩ := (State.contributes_iff hp).1 (hcoils c hc)
    exact ⟨hfootprint, hhot⟩

end

end Sys2Proof.Machine
end

section
/-! PROOFS. What the stages of the share computation give on a sound pan table (R119 to R131), and the obligation on the
computation as a whole. -/

namespace Sys2Proof.Machine

open Sys2Proof.Safety

section
variable {s : State} {p : Pan} {g : Nat}

/-! ### Grants (R117, R122) -/

theorem Tabled.grantsWalked (h : Tabled s) : GrantsWalked s s.shareComputation (grantOn s.grants) := by
  refine ⟨fun p hp q hq hnumber => ?_, fun bd => ?_⟩
  · rw [State.shareComputation_sharedPans] at hq
    obtain ⟨r, hr, rfl⟩ := List.mem_map.1 hq
    have hnumber' : p.number = r.number := hnumber.symm
    obtain rfl : r = p := Option.some.inj ((h.listed _ hr).found.symm.trans (hnumber' ▸ (h.listed _ hp).found))
    refine ⟨(h.listed _ hp).requestMade, fun bd => ?_, rfl⟩
    rw [grantOn_grantWalk s.demandOf h.nodup (h.demand _ hp) s.mains.l1.budget s.mains.l2.budget bd
      (grant := fun n => grantOn s.grants n bd) (fun _ _ => rfl), (h.listed _ hp).demandOf]
    cases bd <;> rfl
  · have hgranted := grantedOn_grantWalk s.demandOf h.nodup s.mains.l1.budget s.mains.l2.budget bd
    unfold allocOn
    rw [State.shareComputation_alloc]
    cases bd <;> exact ⟨rfl, hgranted, rfl⟩

/-! ### Shares (R124) -/

/-- In an ascending list the first element with a property is the one that no lower element has. -/
theorem find?_eq_some_ascending {l : List Nat} (hl : l.Pairwise (· < ·)) {q : Nat → Bool} {x : Nat} (hx : x ∈ l) :
    l.find? q = some x ↔ q x = true ∧ ∀ y ∈ l, y < x → q y = false := by
  induction l with
  | nil => exact absurd hx List.not_mem_nil
  | cons y rest ih =>
    obtain ⟨hy, hrest⟩ := List.pairwise_cons.1 hl
    rcases List.mem_cons.1 hx with rfl | hx
    · have hleast : ∀ z ∈ x :: rest, ¬z < x := List.forall_mem_cons.2 ⟨Nat.lt_irrefl x, fun z hz => (hy z hz).le.not_gt⟩
      cases hq : q x
      · rw [List.find?_cons_of_neg (by simp [hq])]
        exact ⟨fun hf => by simpa [hq] using List.find?_some hf, fun hf => by simp at hf⟩
      · rw [List.find?_cons_of_pos (by simp [hq])]
        exact ⟨fun _ => ⟨rfl, fun z hz hlt => absurd hlt (hleast z hz)⟩, fun _ => rfl⟩
    · cases hq : q y
      · rw [List.find?_cons_of_neg (by simp [hq]), ih hrest hx, List.forall_mem_cons]
        exact and_congr_right fun _ => ⟨fun hf => ⟨fun _ => hq, hf⟩, fun ⟨_, hf⟩ => hf⟩
      · rw [List.find?_cons_of_pos (by simp [hq])]
        refine ⟨fun hf => absurd (Option.some.inj hf) (hy x hx).ne, fun ⟨_, hf⟩ => ?_⟩
        rw [hf y (by simp) (hy x hx)] at hq
        exact absurd hq (by simp)

theorem gensOf_ascending (bd : Board) : (gensOf bd).Pairwise (· < ·) := by cases bd <;> decide

/-- R124: the share of a usable generator. -/
theorem Listed.shareOf (h : Listed s p) {bd : Board} (hg : g ∈ usableHere s p bd) (grants : List Grant) :
    (firstLoaded s p bd g → s.shareOf grants g = plainShare s p (grantOn grants p.number bd) bd g +
      (grantOn grants p.number bd - ((usableHere s p bd).map (plainShare s p (grantOn grants p.number bd) bd)).sum)) ∧
    (¬firstLoaded s p bd g → s.shareOf grants g = plainShare s p (grantOn grants p.number bd) bd g) := by
  obtain ⟨hboard, husable⟩ := List.mem_filter.1 hg
  obtain ⟨-, rfl⟩ := mem_gensOf.1 hboard
  obtain ⟨-, hpan, -⟩ := State.usable_iff.1 ((h.usable g).trans husable)
  have hfirst : (usableHere s p (boardOf g)).find? (fun j => decide (0 < loadWeight s j)) = some g ↔
      firstLoaded s p (boardOf g) g := by
    rw [find?_eq_some_ascending (l := usableHere s p _) ((gensOf_ascending _).filter _) hg]
    simp [firstLoaded]
  simp only [State.shareOf, hpan, h.usable, husable, if_true, h.usableOn, h.panWeight, genWeight_eq]
  exact ⟨fun hf => if_pos (hfirst.2 hf), fun hf => if_neg fun hc => hf (hfirst.1 hc)⟩

/-- R124: a generator that no pan of the table can use has no share. -/
theorem Tabled.shareOf_unusable (h : Tabled s) (hg : ∀ p ∈ s.pans, usableFor s p g = false)
    (grants : List Grant) : s.shareOf grants g = 0 := by
  by_contra hne
  obtain ⟨n, -, husable, -⟩ := State.shareOf_pos (Nat.pos_of_ne_zero hne)
  obtain ⟨-, -, hheats, -⟩ := State.usable_iff.1 husable
  obtain ⟨p, hp, -⟩ := (Option.any_eq_true ..).1 hheats
  obtain ⟨hmem, rfl⟩ := findPan_some hp
  rw [(h.listed _ hmem).usable, hg p hmem] at husable
  exact absurd husable (by simp)

section
variable (h8 : s.gens.length = 8) (hg : g < 8)
include h8 hg

theorem State.shareComputation_share : (s.shareComputation.gen g).share = s.shareOf s.grants g := by
  rw [State.gen_shareComputation (by omega)]; exact State.finalPlans_share hg

theorem State.shareComputation_ordered :
    (s.shareComputation.gen g).ordered = s.orderedFreq (s.runSet (s.allShares s.grants)) g := by
  rw [State.gen_shareComputation (by omega)]; exact State.finalPlans_ordered hg

theorem State.shareComputation_slots : (s.shareComputation.gen g).slots = (planOf s.finalPlans g).slots := by
  rw [State.gen_shareComputation (by omega)]; rfl

theorem State.shareComputation_residue : (s.shareComputation.gen g).residue = (planOf s.finalPlans g).residue := by
  rw [State.gen_shareComputation (by omega)]; rfl

end

theorem Tabled.sharesDivided (h : Tabled s) (h8 : s.gens.length = 8) :
    SharesDivided s s.shareComputation (grantOn s.grants) := by
  refine ⟨fun p hp bd g hg => ?_, fun g hg hnone => ?_⟩
  · have hlt : g < 8 := (mem_gensOf.1 (List.mem_filter.1 hg).1).1
    rw [State.shareComputation_share h8 hlt]
    exact (h.listed _ hp).shareOf hg _
  · rw [State.shareComputation_share h8 hg]; exact h.shareOf_unusable hnone _

/-! ### Frequency groups (R125, R126) -/

theorem State.inRunSet_iff (h8 : s.gens.length = 8) :
    InRunSet s s.shareComputation g ↔ g ∈ s.runSet (s.allShares s.grants) := by
  by_cases hg : g < 8
  · rw [InRunSet, State.shareComputation_share h8 hg, ← List.contains_iff_mem, State.runSet_contains hg,
      Option.isSome_iff_ne_none]
    simp [hg]
  · exact iff_of_false (fun h => hg h.1) fun h => hg (List.mem_range.1 (List.mem_filter.1 h).1)

theorem State.neighbours_iff {x y : Nat} : s.neighbours y x = true ↔ Neighbours s x y := by
  simp only [State.neighbours, List.any_eq_true, Neighbours]
  exact ⟨fun ⟨c, hc, d, hd, h⟩ => ⟨d, hd, c, hc, adjacent_comm c d ▸ h⟩,
    fun ⟨c, hc, d, hd, h⟩ => ⟨d, hd, c, hc, adjacent_comm c d ▸ h⟩⟩

theorem State.mem_groupOf (h8 : s.gens.length = 8) (hg : g ∈ s.runSet (s.allShares s.grants)) {h : Nat} :
    h ∈ s.groupOf (s.runSet (s.allShares s.grants)) g ↔ Grouped s s.shareComputation g h := by
  have hnodup : (s.runSet (s.allShares s.grants)).Nodup := List.nodup_range.filter _
  have hlength : (s.runSet (s.allShares s.grants)).length ≤ 8 := List.length_filter_le _ _
  have hgrows : Grows (s.runSet (s.allShares s.grants)) s.neighbours =
      fun x y => InRunSet s s.shareComputation y ∧ Neighbours s x y := by
    funext x y; rw [Grows, State.inRunSet_iff h8, State.neighbours_iff]
  rw [State.groupOf, mem_closure hnodup (by simp) (by simpa using hg) (by simp; omega), hgrows]
  simp [Grouped]

/-- R125, R126: the frequency of a group is the highest f_min of its members. -/
theorem State.groupFreq_spec (h8 : s.gens.length = 8) (hg : g ∈ s.runSet (s.allShares s.grants)) :
    (∃ h, Grouped s s.shareComputation g h ∧
      (s.gen h).fMin = some (s.groupFreq (s.runSet (s.allShares s.grants)) g)) ∧
    ∀ h f, Grouped s s.shareComputation g h → (s.gen h).fMin = some f →
      f ≤ s.groupFreq (s.runSet (s.allShares s.grants)) g := by
  have hgroup : ∀ h, h ∈ s.groupOf (s.runSet (s.allShares s.grants)) g ↔ Grouped s s.shareComputation g h := fun h =>
    State.mem_groupOf h8 hg
  have hself : g ∈ s.groupOf (s.runSet (s.allShares s.grants)) g := (hgroup g).2 .refl
  obtain ⟨hmost, hleast⟩ := foldl_max_spec (l := (s.groupOf (s.runSet (s.allShares s.grants)) g).map fun j =>
    (s.gen j).fMin.getD 0) (List.ne_nil_of_mem (List.mem_map_of_mem hself))
  refine ⟨?_, fun h f hh hf => ?_⟩
  · obtain ⟨h, hh, hf⟩ := List.mem_map.1 hmost
    have hrun : h ∈ s.runSet (s.allShares s.grants) :=
      closure_subset _ _ (by simpa using hg) hh
    obtain ⟨-, -, hsome⟩ := (State.inRunSet_iff h8).2 hrun
    obtain ⟨f, hsome⟩ := Option.ne_none_iff_exists'.1 hsome
    refine ⟨h, (hgroup h).1 hh, ?_⟩
    rw [State.groupFreq, ← hf, hsome]; rfl
  · refine hleast f (List.mem_map.2 ⟨h, (hgroup h).2 hh, ?_⟩)
    rw [hf]; rfl

theorem State.frequenciesOrdered (h8 : s.gens.length = 8) : FrequenciesOrdered s s.shareComputation := by
  intro g hg
  rw [State.shareComputation_ordered h8 hg, State.inRunSet_iff h8, State.orderedFreq, ← GenState.ready_iff]
  refine ⟨fun hrun => ?_, fun hrun hready => ?_, fun hna hnr => ?_⟩
  · have hready : (s.gen g).state.ready = true :=
      State.ready_of_share ((State.runSet_contains hg).1 (List.contains_iff_mem.2 hrun)).1
    rw [if_pos hready, if_pos (List.contains_iff_mem.2 hrun)]
    exact State.groupFreq_spec h8 hrun
  · rw [if_pos hready, if_neg fun hc => hrun (List.contains_iff_mem.1 hc)]; rfl
  · exact if_neg fun hready => (GenState.ready_iff.1 hready).elim hna hnr

/-! ### Slots (R127, R128) -/

section
variable (h8 : s.gens.length = 8) (hg : g < 8)
include h8 hg

theorem State.slotPower_eq : slotPower s s.shareComputation g = (planOf (s.firstPlans s.grants) g).power := by
  have hplanned : s.planned ((s.runSet (s.allShares s.grants)).contains g) (s.gen g)
        (s.orderedFreq (s.runSet (s.allShares s.grants)) g) = true ↔
      (0 < s.shareOf s.grants g ∧ (s.gen g).fMin ≠ none ∧ s.store.settings.showroom = false ∧
        (s.gen g).pFullFreq.getD 0 ≤ s.orderedFreq (s.runSet (s.allShares s.grants)) g) ∧
      0 < (s.gen g).pFull.getD 0 := by
    simp only [State.planned, settleFrame, Bool.and_eq_true, State.runSet_contains hg, Bool.not_eq_true',
      Bool.and_eq_false_iff, decide_eq_true_eq, decide_eq_false_iff_not, Nat.not_lt, Option.isSome_iff_ne_none]
    cases hp : (s.gen g).pFull <;> simp [and_assoc, and_comm, and_left_comm]
  rw [slotPower, State.shareComputation_share h8 hg, State.shareComputation_ordered h8 hg, State.planOf_firstPlans hg,
    State.planGen]
  dsimp only
  simp only [hplanned]
  split <;> rename_i hcond
  · by_cases hpos : 0 < (s.gen g).pFull.getD 0
    · rw [if_pos ⟨hcond, hpos⟩]
    · rw [if_neg fun hc => hpos hc.2]; omega
  · rw [if_neg fun hc => hcond hc.1]

theorem State.dueEnergy_eq : dueEnergy s s.shareComputation g = (planOf (s.firstPlans s.grants) g).due := by
  rw [dueEnergy, State.shareComputation_share h8 hg, State.planOf_firstPlans hg, State.planGen, State.allShares_getD hg]

theorem State.slotsDue_eq : slotsDue s s.shareComputation g = (planOf (s.firstPlans s.grants) g).slots := by
  rw [slotsDue, State.slotPower_eq h8 hg, State.dueEnergy_eq h8 hg, State.planOf_firstPlans hg]; rfl

end

/-! ### The phase check (R129) -/

theorem losesBefore_iff {x y : Nat} : losesBefore s x y = true ↔
    ∃ n m, (s.gen x).pan = some n ∧ (s.gen y).pan = some m ∧
      (s.levels.demand.idxOf m < s.levels.demand.idxOf n ∨ n = m ∧ y < x) := by
  unfold losesBefore
  cases (s.gen x).pan <;> cases (s.gen y).pan <;> simp

theorem losesBefore_asymm {x y : Nat} (h : losesBefore s x y = true) : losesBefore s y x = false := by
  refine Bool.eq_false_iff.2 fun h' => ?_
  obtain ⟨n, m, hx, hy, h⟩ := losesBefore_iff.1 h
  obtain ⟨m', n', hy', hx', h'⟩ := losesBefore_iff.1 h'
  obtain rfl : n = n' := Option.some.inj (hx.symm.trans hx')
  obtain rfl : m = m' := Option.some.inj (hy.symm.trans hy')
  rcases h with h | ⟨rfl, h⟩
  · rcases h' with h' | ⟨rfl, -⟩
    · omega
    · exact Nat.lt_irrefl _ h
  · rcases h' with h' | ⟨-, h'⟩ <;> omega

theorem losesBefore_irrefl (x : Nat) : losesBefore s x x = false :=
  Bool.eq_false_iff.2 fun h => Bool.false_ne_true ((losesBefore_asymm h).symm.trans h)

/-- The pans of a list without repeats stand in it as their places say. -/
theorem pairwise_idxOf {l : List Nat} (h : l.Nodup) : l.Pairwise fun a b => l.idxOf a < l.idxOf b := by
  rw [List.pairwise_iff_getElem]
  intro i j hi hj hij
  rwa [h.idxOf_getElem i hi, h.idxOf_getElem j hj]

/-- R129: the order of removal: the pans from the back of the demand order, a pan's generators from the highest. -/
theorem Tabled.trimOrder_loses (h : Tabled s) (bd : Board) :
    (s.trimOrder bd).Pairwise fun x y => losesBefore s x y = true := by
  refine List.pairwise_flatMap.2 ⟨fun n _ => ?_, ?_⟩
  · have hdescend : ((gensOf bd).reverse.filter fun g => decide ((s.gen g).pan = some n)).Pairwise (· > ·) :=
      (List.pairwise_reverse.2 (gensOf_ascending bd)).filter _
    refine hdescend.imp_of_mem fun {x y} hx hy hlt => ?_
    simp only [List.mem_filter, decide_eq_true_eq] at hx hy
    exact losesBefore_iff.2 ⟨_, _, hx.2, hy.2, .inr ⟨rfl, hlt⟩⟩
  · refine List.pairwise_reverse.2 ((pairwise_idxOf h.nodup).imp fun {m n} hlt x hx y hy => ?_)
    simp only [List.mem_filter, decide_eq_true_eq] at hx hy
    exact losesBefore_iff.2 ⟨_, _, hx.2, hy.2, .inl hlt⟩

/-- R129: in the order of removal those before a generator are the ones that lose their slots before it, and those
behind it the ones that lose them after it. -/
theorem Tabled.trimOrder_places (h : Tabled s) {bd : Board} {pre post : List Nat}
    (hsplit : s.trimOrder bd = pre ++ g :: post) {x : Nat} (hx : x ∈ s.trimOrder bd) :
    (x ∈ pre ↔ losesBefore s x g = true) ∧ ((x = g ∨ x ∈ pre) ↔ losesBefore s g x = false) := by
  have hloses := h.trimOrder_loses bd
  rw [hsplit, List.pairwise_append, List.pairwise_cons] at hloses
  obtain ⟨-, ⟨hbehind, -⟩, hahead⟩ := hloses
  have hbefore : ∀ y ∈ pre, losesBefore s y g = true := fun y hy => hahead y hy g (by simp)
  rw [hsplit] at hx
  rcases List.mem_append.1 hx with hpre | hpost
  · simp [hpre, hbefore x hpre, losesBefore_asymm (hbefore x hpre)]
  · rcases List.mem_cons.1 hpost with rfl | hpost
    · have hnot : x ∉ pre := fun hpre => by simpa [losesBefore_irrefl] using hbefore x hpre
      simp [hnot, losesBefore_irrefl]
    · have hlater := hbehind x hpost
      have hnot : x ∉ pre := fun hpre => by simpa [losesBefore_asymm hlater] using hbefore x hpre
      have hne : x ≠ g := fun he => by simp [he, losesBefore_irrefl] at hlater
      simp [hnot, hne, hlater, losesBefore_asymm hlater]

/-- R129: once a generator has lost slots, all that go before it have none left, and with those that go after it whole
the figure was still above. -/
theorem Tabled.removed_inOrder (h : Tabled s) {bd : Board} (hg : g ∈ gensOf bd)
    (hcut : (planOf s.finalPlans g).slots < (planOf (s.firstPlans s.grants) g).slots) :
    (∀ x ∈ gensOf bd, losesBefore s x g = true → (planOf s.finalPlans x).slots = 0) ∧
      16 * (s.phase (boardPhase bd)).budget <
        ((planOf s.finalPlans g).slots + 1) * (planOf (s.firstPlans s.grants) g).power +
          (((gensOf bd).filter fun x => losesBefore s g x).map (planEnergy (s.firstPlans s.grants))).sum := by
  have hpowered : ∀ x ∈ gensOf bd, (planOf (s.firstPlans s.grants) x).slots ≠ 0 → x ∈ s.trimOrder bd := fun x hx hne =>
    State.powered_mem_trimOrder hx fun h0 => hne (State.firstPlans_slots h0)
  obtain ⟨pre, post, hsplit⟩ := List.append_of_mem (hpowered g hg (by omega))
  have hnodup : (s.trimOrder bd).Nodup := (h.trimOrder_loses bd).imp fun {x y} hxy he => by
    rw [he, losesBefore_irrefl] at hxy; exact Bool.false_ne_true hxy
  have htrim := s.checked_trimmable bd
  have hwalk : trimWalk (16 * (s.phase (boardPhase bd)).budget) (s.trimOrder bd) (s.plansBefore bd)
      (plannedOn (s.plansBefore bd) bd) 0 = s.checked bd := rfl
  rw [hsplit] at htrim hnodup hwalk
  rw [State.planOf_finalPlans hg, ← State.planOf_plansBefore hg] at hcut ⊢
  obtain ⟨hnone, hneeded⟩ := htrim.inOrder hnodup (plans' := (s.checked bd).1) (planned' := (s.checked bd).2.1)
    (removed' := (s.checked bd).2.2) hwalk hcut
  refine ⟨fun x hx hxg => by_contra fun hne => hne ?_, ?_⟩
  · have hmem : x ∈ s.trimOrder bd := hpowered x hx fun h0 => hne (Nat.le_zero.1 (h0 ▸ s.finalPlans_cut.slots x))
    rw [State.planOf_finalPlans hx]
    exact hnone x ((h.trimOrder_places hsplit hmem).1.2 hxg)
  · have hothers : (gensOf bd).map (fun x => if x = g ∨ x ∈ pre then 0 else planEnergy (s.plansBefore bd) x) =
        (gensOf bd).map fun x => if losesBefore s g x = true then planEnergy (s.firstPlans s.grants) x else 0 :=
      List.map_congr_left fun x hx => by
        have hsame : planEnergy (s.plansBefore bd) x = planEnergy (s.firstPlans s.grants) x := by
          rw [planEnergy, State.planOf_plansBefore hx]; rfl
        by_cases hmem : x ∈ s.trimOrder bd
        · simp only [(h.trimOrder_places hsplit hmem).2, hsame]
          cases losesBefore s g x <;> simp
        · have hzero : planEnergy (s.firstPlans s.grants) x = 0 := by
            rw [planEnergy, by_contra fun hne => hmem (hpowered x hx hne), Nat.zero_mul]
          rw [hsame, hzero, ite_self, ite_self]
    rw [hothers, ← sum_map_filter, Nat.add_comm] at hneeded
    exact hneeded

/-- R129: the phase check of each board. -/
theorem Tabled.phaseChecked (h : Tabled s) (h8 : s.gens.length = 8) (bd : Board) :
    PhaseChecked s s.shareComputation bd := by
  have hlt : ∀ x ∈ gensOf bd, x < 8 := fun x hx => (mem_gensOf.1 hx).1
  have henergy : (gensOf bd).map (fun x => (s.shareComputation.gen x).slots * slotPower s s.shareComputation x) =
      (gensOf bd).map (planEnergy s.finalPlans) := List.map_congr_left fun x hx => by
    rw [State.shareComputation_slots h8 (hlt x hx), State.slotPower_eq h8 (hlt x hx), planEnergy,
      s.finalPlans_cut.power]
  have hplanned : ((gensOf bd).map fun x =>
      (s.shareComputation.gen x).slots * slotPower s s.shareComputation x).sum = (s.checked bd).2.1 := by
    rw [henergy, s.checked_planned, plannedOn_eq]
  have halloc : allocOn s.shareComputation bd = phaseAlloc (s.phase (boardPhase bd)).budget (grantedOn s.grants bd)
      (s.checked bd).2.1 (s.checked bd).2.2 := by
    unfold allocOn; rw [State.shareComputation_alloc]; cases bd <;> rfl
  have hphase : (s.shareComputation.phase (boardPhase bd)).planned = (s.checked bd).2.1 := by
    cases bd <;> simp only [boardPhase, State.phase, State.shareComputation_mains]
  rw [PhaseChecked, hplanned, halloc, hphase]
  refine ⟨fun x hx => ?_, s.checked_within bd, fun x hx hcut => ?_, rfl, rfl, ?_⟩
  · rw [State.shareComputation_slots h8 (hlt x hx), State.slotsDue_eq h8 (hlt x hx)]
    exact s.finalPlans_cut.slots x
  · rw [State.shareComputation_slots h8 (hlt x hx), State.slotsDue_eq h8 (hlt x hx)] at hcut
    obtain ⟨hnone, hneeded⟩ := h.removed_inOrder hx hcut
    refine ⟨fun y hy hyx => by rw [State.shareComputation_slots h8 (hlt y hy)]; exact hnone y hy hyx, ?_⟩
    have hlater : ((gensOf bd).filter fun y => losesBefore s x y).map
          (fun y => slotsDue s s.shareComputation y * slotPower s s.shareComputation y) =
        ((gensOf bd).filter fun y => losesBefore s x y).map (planEnergy (s.firstPlans s.grants)) :=
      List.map_congr_left fun y hy => by
        have hy := hlt y (List.mem_filter.1 hy).1
        rw [State.slotsDue_eq h8 hy, State.slotPower_eq h8 hy]; rfl
    rw [hlater, State.shareComputation_slots h8 (hlt x hx), State.slotPower_eq h8 (hlt x hx)]
    exact hneeded
  · refine (s.checked_removed bd).trans (congrArg List.sum (List.map_congr_left fun x hx => ?_))
    rw [State.shareComputation_slots h8 (hlt x hx), State.slotsDue_eq h8 (hlt x hx)]

/-! ### Residues and delivered power (R130, R131) -/

theorem State.residuesCarried (h8 : s.gens.length = 8) : ResiduesCarried s s.shareComputation := by
  intro g hg
  rw [State.shareComputation_residue h8 hg, State.shareComputation_slots h8 hg, State.slotPower_eq h8 hg,
    State.dueEnergy_eq h8 hg, GenPlan.residue, s.finalPlans_cut.power, s.finalPlans_cut.rest g]

theorem State.powerDelivered (h8 : s.gens.length = 8) : PowerDelivered s s.shareComputation := by
  intro q hq
  rw [State.shareComputation_sharedPans] at hq
  obtain ⟨p, -, rfl⟩ := List.mem_map.1 hq
  refine congrArg List.sum (List.map_congr_left fun g hg => ?_)
  have hg : g < 8 := List.mem_range.1 (List.mem_filter.1 hg).1
  rw [State.shareComputation_slots h8 hg, State.slotPower_eq h8 hg, GenPlan.delivered, s.finalPlans_cut.power]

theorem Tabled.sharesComputed (h : Tabled s) (h8 : s.gens.length = 8) : SharesComputed s s.shareComputation :=
  ⟨⟨_, h.grantsWalked, h.sharesDivided h8⟩, State.frequenciesOrdered h8, h.phaseChecked h8, State.residuesCarried h8,
    State.powerDelivered h8⟩

end

/-! ### The statement -/

/-- R116: a state that differs from `s` in the results of a share computation alone. -/
theorem State.eq_of_results {s t : State} {gens : List Gen} {pans : List Pan} {alloc : Alloc} {out : List Output}
    {links : Links} {plannedA plannedB : Nat}
    (h : t = { s with
      gens := gens, pans := pans, alloc := alloc, out := out, links := links
      mains := { s.mains with
        l1 := { s.mains.l1 with planned := plannedA }
        l2 := { s.mains.l2 with planned := plannedB } } }) :
    t = { s with
      gens := t.gens, pans := t.pans, alloc := t.alloc, out := t.out, links := t.links
      mains := { s.mains with
        l1 := { s.mains.l1 with planned := t.mains.l1.planned }
        l2 := { s.mains.l2 with planned := t.mains.l2.planned } } } := by subst h; rfl

/-- Settles O13: stage by stage in the statement's own words where the pan table is sound, and field by field in every
state. -/
theorem sharesKeepTheirBounds : Obligations.SharesKeepTheirBounds := by
  intro s
  refine ⟨s.shareComputation_slotsAllowed, fun h => (Tabled.of_sound h).sharesComputed, fun hnumbers q hq => ?_, ?_⟩
  · rw [State.shareComputation_sharedPans] at hq
    obtain ⟨p, hp, rfl⟩ := List.mem_map.1 hq
    have hrequest := State.requestOf_le (s := s) (p := p)
    exact ⟨State.grantOf_le (findPan_of_mem hnumbers hp), hrequest.1, hrequest.2⟩
  · rintro t rfl h8
    refine ⟨fun g hg => State.shareComputation_genFrame h8 hg, ?_,
      ⟨s.sharedOrder, s.sharedOrder_driveOrder, ?_⟩, ?_, State.eq_of_results s.shareComputation_eq⟩
    · rw [State.shareComputation_sharedPans]
      exact forall₂_map_self fun p _ => ⟨s.panFigures_frame _ _ p, s.panFigures_levels _ _ p⟩
    · conv_lhs => rw [State.shareComputation_eq]
      rfl
    · rw [State.shareComputation_sharedPans]; exact s.shareComputation_links

end Sys2Proof.Machine
end

section
/-! PROOFS. HALT is left by a reset alone (R144, R146): outside the resets every command leaves the Mode Controller of a
device in HALT as it stands. -/

namespace Sys2Proof.Machine

open Sys2Proof.Safety

/-! ### A device in HALT -/

/-- Table 9-1, R138: in HALT no survey is under way and the START timer is stopped. -/
structure Halted (s : State) : Prop where
  mode : s.ctl.mode = .halt
  survey : s.survey.state = .idle
  startTimer : s.ctl.startTimer = none

/-- A device in HALT stays there, its Mode Controller as it stands. -/
def StaysHalted (s t : State) : Prop := Halted s → t.ctl = s.ctl ∧ t.survey.state = .idle

section
variable {s t u : State}

theorem Halted.of_modesAgree (h : ModesAgree s) (hm : s.ctl.mode = .halt) : Halted s := by
  obtain ⟨hsurvey, hstart, -⟩ := h
  exact ⟨hm, by simpa [hm] using hsurvey, by simpa [hm] using hstart⟩

theorem Halted.of_ctl (h : Halted s) (hc : t.ctl = s.ctl) (hv : t.survey.state = .idle) : Halted t :=
  ⟨hc ▸ h.mode, hv, hc ▸ h.startTimer⟩

theorem StaysHalted.refl : StaysHalted s s := fun h => ⟨rfl, h.survey⟩

theorem StaysHalted.trans (h : StaysHalted s t) (h' : StaysHalted t u) : StaysHalted s u := fun hs => by
  obtain ⟨hc, hv⟩ := h hs
  obtain ⟨hc', hv'⟩ := h' (hs.of_ctl hc hv)
  exact ⟨hc'.trans hc, hv'⟩

theorem StaysHalted.after (h' : StaysHalted t u) (h : StaysHalted s t) : StaysHalted s u := h.trans h'

/-- Where the Mode Controller and the survey stand. -/
theorem StaysHalted.of_eq (hc : t.ctl = s.ctl := by simp) (hv : t.survey = s.survey := by simp) : StaysHalted s t :=
  fun h => ⟨hc, hv ▸ h.survey⟩

/-- What nothing is done to in HALT. -/
theorem StaysHalted.of_idle (h : Halted s → t = s) : StaysHalted s t := fun hs => by rw [h hs]; exact ⟨rfl, hs.survey⟩

/-- What no device in HALT comes to. -/
theorem StaysHalted.of_elsewhere (h : s.ctl.mode ≠ .halt) : StaysHalted s t := fun hs => absurd hs.mode h

end

section
variable (s : State)

theorem State.elapse_staysHalted (dt : Nat) : StaysHalted s (s.elapse dt) := .of_eq

theorem State.elapseTo_staysHalted (t : Nat) : StaysHalted s (s.elapseTo t) := .of_eq

/-! ### What the Mode Controller and the survey do in HALT (R138, R142, R144, R152, R155) -/

theorem State.judgeStart_staysHalted : StaysHalted s s.judgeStart :=
  .of_idle fun h => by simp [State.judgeStart, State.startDone, h.mode]

theorem State.leaveForStandby_staysHalted : StaysHalted s s.leaveForStandby :=
  .of_idle fun h => by simp [State.leaveForStandby, h.mode]

theorem State.enterHalt_staysHalted (cause : HaltCause) : StaysHalted s (s.enterHalt cause) :=
  .of_idle fun h => by simp [State.enterHalt, h.mode]

theorem State.abortSurvey_staysHalted (o : SurveyOutcome) : StaysHalted s (s.abortSurvey o) :=
  .of_idle fun h => by simp [State.abortSurvey, h.survey]

theorem State.surveyClose_staysHalted : StaysHalted s s.surveyClose :=
  .of_idle fun h => by simp [State.surveyClose, h.survey]

/-- R16: an intake hands its samples to a survey under way, and begins none. -/
theorem State.intake_staysHalted (reading : Nat → Option Reading) : StaysHalted s (s.intake reading) := fun h =>
  ⟨by simp, by rw [State.intake_survey]; exact (Survey.handCoils_idle_iff _ _ _ _ _ _).2 h.survey⟩

/-! ### The frames and the mains (R2 to R12) -/

theorem State.intakeAndClose_staysHalted : StaysHalted s s.intakeAndClose := by
  unfold State.intakeAndClose State.showroomIntake
  (repeat' split)
  · exact s.intake_staysHalted _
  · exact s.surveyClose_staysHalted.trans (State.intake_staysHalted _ _)
  · exact (s.intake_staysHalted _).trans (State.surveyClose_staysHalted _)
  · exact s.surveyClose_staysHalted

theorem State.shareComputation_staysHalted : StaysHalted s s.shareComputation := .of_eq

theorem State.frameStart_staysHalted : StaysHalted s s.frameStart :=
  ((State.intakeAndClose_staysHalted _).trans (State.shareComputation_staysHalted _)).after .of_eq

theorem State.freeFrame_staysHalted : StaysHalted s s.freeFrame := (State.frameStart_staysHalted _).after .of_eq

theorem State.syncedFrame_staysHalted : StaysHalted s s.syncedFrame := (State.frameStart_staysHalted _).after .of_eq

theorem State.freeExpired_staysHalted : StaysHalted s s.freeExpired := by
  unfold State.freeExpired
  split
  · exact .of_eq
  · exact s.freeFrame_staysHalted

theorem State.frameEdge_staysHalted : StaysHalted s s.frameEdge := by
  unfold State.frameEdge
  dsimp only
  (repeat' split)
  · exact .refl
  · exact s.syncedFrame_staysHalted
  · exact s.syncedFrame_staysHalted
  · exact .of_eq
  · exact .of_eq

theorem State.l1Lost_staysHalted : StaysHalted s s.l1Lost := by
  unfold State.l1Lost
  dsimp only
  split
  · exact s.leaveForStandby_staysHalted
  · split
    · exact .of_elsewhere (by simp [*])
    · exact s.freeFrame_staysHalted

theorem State.l1Changed_staysHalted (before : Sync) : StaysHalted s (s.l1Changed before) := by
  unfold State.l1Changed
  (repeat' split)
  · exact s.judgeStart_staysHalted
  · exact s.l1Lost_staysHalted
  · exact .refl

theorem State.edgeExpired_staysHalted (ph : Phase) : StaysHalted s (s.edgeExpired ph) := by
  unfold State.edgeExpired
  cases ph with
  | l1 => exact (State.l1Changed_staysHalted _ _).after .of_eq
  | l2 => exact .of_eq

theorem State.edgeTaken_staysHalted (ph : Phase) : StaysHalted s (s.edgeTaken ph) := by
  unfold State.edgeTaken
  cases ph with
  | l1 =>
    dsimp only
    split
    · exact ((State.l1Changed_staysHalted _ _).trans (State.frameEdge_staysHalted _)).after .of_eq
    · exact (State.l1Changed_staysHalted _ _).after .of_eq
  | l2 => exact .of_eq

/-! ### The boards and the links (R94, R96, R97, R110, R164) -/

theorem State.boardLost_staysHalted (bd : Board) : StaysHalted s (s.boardLost bd) := by
  unfold State.boardLost
  dsimp only
  split
  · exact .of_eq
  · exact (State.abortSurvey_staysHalted _ _).after .of_eq

theorem State.boardExpiry_staysHalted (bd : Board) : StaysHalted s (s.boardExpiry bd) := by
  unfold State.boardExpiry
  split
  · exact (State.judgeStart_staysHalted _).after .of_eq
  · exact (s.boardLost_staysHalted bd).trans (State.judgeStart_staysHalted _)
  all_goals exact .refl

theorem State.boardArrival_staysHalted (bd : Board) (f : Frame) : StaysHalted s (s.boardArrival bd f) := by
  have henqueue : ∀ t : State, StaysHalted t.judgeStart (t.judgeStart.enqueue (boardLinkId bd) f) := fun _ => .of_eq
  have hreturned : ∀ (t : State) (f : Frame), StaysHalted t (t.enqueue (boardLinkId bd) f) := fun _ _ => .of_eq
  unfold State.boardArrival
  dsimp only
  (repeat' split)
  · exact ((State.judgeStart_staysHalted _).trans (henqueue _)).after .of_eq
  · exact (State.judgeStart_staysHalted _).after .of_eq
  · rw [State.boardReturns_eq]
    exact ((State.judgeStart_staysHalted _).trans (hreturned _ _)).after
      (.of_eq (by simp [State.boardBack]) (by simp [State.boardBack]))
  · exact .refl

theorem State.frameComplete_staysHalted (l : Link) (f : Frame) : StaysHalted s (s.frameComplete l f) := by
  unfold State.frameComplete
  split
  · exact .refl
  · cases l with
    | panel => exact .of_eq
    | remote => exact .of_eq
    | genA => exact s.boardArrival_staysHalted .a f
    | genB => exact s.boardArrival_staysHalted .b f

theorem State.takeByte_staysHalted (l : Link) (byte : Byte) : StaysHalted s (s.takeByte l byte) := by
  unfold State.takeByte State.frameByte State.assemble
  dsimp only
  (repeat' split)
  · exact .of_eq
  · exact .refl
  · exact .of_eq
  · exact (State.frameComplete_staysHalted _ _ _).after .of_eq
  · exact .of_eq
  · exact .of_eq

theorem State.partnerExpiry_staysHalted (p : Partner) : StaysHalted s (s.partnerExpiry p) := by
  unfold State.partnerExpiry State.partnerGone
  split
  · exact .of_eq
  · cases p with
    | panel => exact (State.leaveForStandby_staysHalted _).after .of_eq
    | remote => exact .of_eq
  all_goals exact .refl

theorem State.takeValues_staysHalted (bd : Board) (r : BoardReport) : StaysHalted s (s.takeValues bd r) := by
  have hvalues : ∀ t : State, StaysHalted t (((t.modPhase (boardPhase bd)
      (PhaseRec.takeVoltage r.voltage)).takeGenFields bd r).modBoard bd fun x => { x with lastReport := some r }) :=
    fun _ => .of_eq
  unfold State.takeValues
  dsimp only
  split
  · exact hvalues _
  · exact (s.intake_staysHalted _).trans (hvalues _)

theorem State.reportFrame_staysHalted (bd : Board) (f : Frame) : StaysHalted s (s.reportFrame bd f) := by
  have hreport : ∀ (t : State) (r : BoardReport), StaysHalted t (t.takeReport bd r) := fun t r => by
    rw [State.takeReport_eq]
    split
    · exact (t.enterHalt_staysHalted _).trans (State.takeValues_staysHalted _ bd r)
    · exact t.takeValues_staysHalted bd r
  unfold State.reportFrame
  dsimp only
  (repeat' split)
  · exact .of_eq
  · exact .of_eq
  · exact (hreport _ _).after .of_eq
  · exact .of_eq
  · exact .refl

theorem State.transferComplete_staysHalted (readback : ChainWord) : StaysHalted s (s.transferComplete readback) := by
  unfold State.transferComplete
  dsimp only
  split
  · exact (State.enterHalt_staysHalted _ _).after .of_eq
  · exact .of_eq

end

end Sys2Proof.Machine
end

section
/-! PROOFS. Every command and every step, in HALT (R144, R146). -/

namespace Sys2Proof.Machine

open Sys2Proof.Safety

/-- The command with the outcome `x` completes, and ends in a reset or leaves HALT as it is. -/
def Halts (s : State) (x : Host.Outcome State Fault Refusal) : Prop :=
  ∃ t, x = .next t ∧ (t.resetting.isSome = true ∨ StaysHalted s t)

section
variable {s : State}

/-! ### Frames taken and expiries (R161, R162) -/

theorem Halts.unlessReset {f : State → State} (h : ∀ u, StaysHalted u (f u)) : Halts s (.next (s.unlessReset f)) :=
  ⟨_, rfl, .inr (State.unlessReset_keeps (Inv := StaysHalted s) .refl fun _ => h s)⟩

theorem Halts.expiry {f : State → State} {timer : State → Timer} (h : ∀ u, StaysHalted u (f u)) :
    Halts s (.next (s.unlessReset fun t => t.expire (timer t) f)) :=
  .unlessReset fun u => State.expire_keeps (Inv := StaysHalted u) .refl fun d _ =>
    (u.elapseTo_staysHalted d).trans (h _)

theorem Halts.takeBoardFrame {bd : Board} {kind : Byte} {act : Frame → State → State}
    (h : ∀ f u, StaysHalted u (act f u)) : Halts s (.next (s.unlessReset (State.takeBoardFrame bd kind act))) :=
  .unlessReset fun u => by
    obtain hu | ⟨f, rest, -, -, -, hu⟩ := u.takeBoardFrame_cases bd kind act <;> rw [hu]
    · exact .refl
    · exact (h f _).after .of_eq

theorem Halts.takePartnerFrame {p : Partner} {want : Byte → Bool} {act : Frame → State → State}
    (h : ∀ f u, StaysHalted u (act f u)) : Halts s (.next (s.unlessReset (State.takePartnerFrame p want act))) :=
  .unlessReset fun u => by
    obtain hu | ⟨f, rest, -, -, hu⟩ := u.takePartnerFrame_cases p want act <;> rw [hu]
    · exact .refl
    · split <;> [exact .of_eq; exact (h f _).after .of_eq]

/-- An answer that leaves HALT as it is. -/
def AnswersHalted (u : State) (r : Served) : Prop := StaysHalted u r.state

/-- An answer that moves neither the Mode Controller nor the survey. -/
theorem AnswersHalted.of_eq {t u : State} (hc : t.ctl = u.ctl := by simp) (hv : t.survey = u.survey := by simp) :
    AnswersHalted u (accept t) := StaysHalted.of_eq hc hv

theorem AnswersHalted.refuse {u : State} {r : Reply} : AnswersHalted u (refuse r u) := .refl

theorem AnswersHalted.accept {t u : State} (h : StaysHalted u t) : AnswersHalted u (accept t) := h

theorem State.takeRow_answersHalted (row : Nat) (values : List Nat) : AnswersHalted s (s.takeRow row values) := by
  unfold State.takeRow
  dsimp only
  split <;> exact StaysHalted.of_eq rfl rfl

theorem State.takeWrite_answersHalted (id v : Nat) (range : Nat × Nat) : AnswersHalted s (s.takeWrite id v range) := by
  rw [State.takeWrite_eq]; exact StaysHalted.of_eq

theorem Halts.serve {p : Partner} {req : Request} {body : List Byte → State → Served}
    (h : ∀ b u, AnswersHalted u (body b u)) : Halts s (.next (s.unlessReset (State.serve p req body))) :=
  .unlessReset fun u => State.serve_keeps (Inv := StaysHalted u) .refl (fun _ => .of_eq)
    (fun b _ hk => hk.trans (h b _)) fun _ _ _ _ hk => hk.trans .of_eq

/-- A read answers and changes nothing. -/
theorem Halts.read {p : Partner} {req : Request} {body : List Byte → State → Served}
    (h : ∀ b u, (body b u).state = u) : Halts s (.next (s.unlessReset (State.serve p req body))) :=
  .serve fun b u => show StaysHalted u (body b u).state from (h b u).symm ▸ .refl

/-! ### Commands -/

/-- R147: a reset begins. -/
theorem State.beginReset_resetting (s : State) (cause : ResetCause) : (s.beginReset cause).resetting.isSome = true := by
  unfold State.beginReset; split <;> rfl

theorem execSoftResetStart_halts : Halts s (execSoftResetStart s) := by
  refine ⟨_, rfl, State.unlessReset_keeps (Inv := fun t => t.resetting.isSome = true ∨ StaysHalted s t) (.inr .refl)
    fun _ => ?_⟩
  split
  · exact .inl (s.beginReset_resetting _)
  · exact .inr .refl

theorem execResetEnd_halts (hr : s.resetting = none) : Halts s (execResetEnd s) :=
  ⟨s, by simp [execResetEnd, hr], .inr .refl⟩

theorem execZeroCrossEdge_halts (ph : Phase) (wait : Nat) : Halts s (execZeroCrossEdge ph wait s) := by
  refine ⟨_, rfl, .inr ?_⟩
  split
  · exact s.elapse_staysHalted wait
  · refine StaysHalted.trans ?_ ((State.elapseTo_staysHalted _ _).trans (State.edgeTaken_staysHalted _ ph))
    split
    · exact State.expire_keeps (Inv := StaysHalted s) .refl fun d _ =>
        (s.elapseTo_staysHalted d).trans (State.edgeExpired_staysHalted _ ph)
    · exact .refl

/-- R138: in HALT no START timer runs out. -/
theorem execStartTimerExpiry_halts : Halts s (execStartTimerExpiry s) :=
  .unlessReset fun _ => .of_idle fun h => by rw [h.startTimer, State.expire_none]

theorem execRecallExpiry_halts (i : Nat) : Halts s (execRecallExpiry i s) := by
  have hrecalls : ∀ (t : State) l, StaysHalted t { t with recalls := l } := fun _ _ => .of_eq
  refine .unlessReset fun u => ?_
  split
  · exact .refl
  · exact (u.elapseTo_staysHalted _).trans (hrecalls _ _)

theorem execBoostExpiry_halts (n : Nat) : Halts s (execBoostExpiry n s) := by
  have hpan : ∀ t : State, StaysHalted t ((t.modPan n Pan.endBoost).capture .boostEnded) := fun _ => .of_eq
  refine .unlessReset fun u => ?_
  (repeat' split)
  · exact .refl
  · exact (u.elapse_staysHalted _).trans (hpan _)
  · exact .refl

end

/-! ### Every command -/

theorem exec_halts (c : Instr) {s : State} (hr : s.resetting = none) : Halts s (exec c s) := by
  cases c with
  | zeroCrossEdge ph wait => exact execZeroCrossEdge_halts ph wait
  | edgeTimerExpiry ph => exact .expiry fun u => u.edgeExpired_staysHalted ph
  | freeFrameExpiry => exact .expiry State.freeExpired_staysHalted
  | trackingTimerExpiry => exact .expiry fun _ => .of_eq
  | powerOn => exact ⟨_, rfl, .inl (s.beginReset_resetting .powerOn)⟩
  | resetLine => exact ⟨_, rfl, .inl (s.beginReset_resetting .resetLine)⟩
  | resetEnd => exact execResetEnd_halts hr
  | softResetStart => exact execSoftResetStart_halts
  | frameArrival l kind tag payload =>
    exact .unlessReset fun _ => by
      dsimp only
      split <;> [exact (State.frameComplete_staysHalted _ _ _).after .of_eq; exact .of_eq]
  | byteGapTimeout l => exact .expiry fun _ => .of_eq
  | linkPresenceExpiry p => exact .expiry fun u => u.partnerExpiry_staysHalted p
  | boardPresenceExpiry bd => exact .expiry fun u => u.boardExpiry_staysHalted bd
  | sendFrame p => exact .unlessReset fun _ => .of_eq
  | unknownKind p => exact .takePartnerFrame fun _ _ => .of_eq
  | hello p => exact .read fun _ _ => rfl
  | readStatus p => exact .read fun _ _ => by (repeat' split) <;> rfl
  | readPans p => exact .read fun _ _ => by dsimp only; split <;> rfl
  | readCoils p => exact .read fun _ _ => by dsimp only; split <;> rfl
  | readGenerators p => exact .read fun _ _ => by (repeat' split) <;> rfl
  | readEvents p => exact .read fun _ _ => rfl
  | clearEvents p => exact .serve fun _ _ => by split <;> [exact .refuse; exact .of_eq]
  | setEventEnable p => exact .serve fun _ _ => by split <;> [exact .refuse; exact .of_eq]
  | readTable p => exact .read fun _ _ => by dsimp only; (repeat' split) <;> rfl
  | readSettings p => exact .read fun _ _ => by (repeat' split) <;> rfl
  | setLevel p => exact .serve fun _ _ => by split <;> [exact .refuse; exact .of_eq]
  | allOff p => exact .serve fun _ _ => by split <;> exact .of_eq
  | setRemotePermit p => exact .serve fun _ _ => by (repeat' split) <;> [exact .refuse; exact .refuse; exact .of_eq]
  | pause p => exact .serve fun _ _ => by (repeat' split) <;> [exact .refuse; exact .of_eq rfl rfl; exact .of_eq]
  | resume p => exact .serve fun _ _ => by (repeat' split) <;> [exact .refuse; exact .of_eq; exact .of_eq rfl rfl]
  | activate p =>
    exact .serve fun _ _ => by
      split <;> [exact .refuse; exact .accept (.of_elsewhere (by simp [State.activateVerdict_none ‹_›]))]
  | deactivate p =>
    exact .serve fun _ u => by
      split <;> [exact .accept u.leaveForStandby_staysHalted; exact .of_eq; exact .refuse; exact .refuse; exact .refuse]
  | softReset p => exact .takePartnerFrame fun _ _ => by dsimp only; split <;> exact .of_eq
  | surveyStart p =>
    exact .serve fun _ _ => by
      split <;> [exact .refuse; exact .accept (.of_elsewhere (by simp [State.surveyVerdict_none ‹_›]))]
  | surveySuspend p =>
    exact .serve fun _ _ => by
      split <;> [exact .refuse; exact .accept (.of_elsewhere (by simp [surveyOnly_none ‹_›]))]
  | surveyResume p =>
    exact .serve fun _ _ => by
      (repeat' split) <;>
        [exact .refuse; exact .refuse; exact .accept (.of_elsewhere (by simp [surveyOnly_none ‹_›])); exact .of_eq]
  | surveyAbort p =>
    exact .serve fun _ u => by
      split <;> [exact .refuse; exact .accept (u.abortSurvey_staysHalted _)]
  | writeShowroomRow p =>
    exact .serve fun _ _ => by
      (repeat' split) <;> [exact .refuse; exact .refuse; exact .refuse; exact State.takeRow_answersHalted _ _]
  | writeSetting p =>
    exact .serve fun _ _ => by
      (repeat' split) <;> [exact .refuse; exact .refuse; exact .refuse; exact State.takeWrite_answersHalted _ _ _]
  | writeLevelTable p =>
    exact .serve fun _ _ => by
      dsimp only
      (repeat' split) <;> [exact .refuse; exact .of_eq; exact .refuse]
  | storeSettings p => exact .serve fun _ _ => by split <;> [exact .refuse; exact .of_eq]
  | setExclusion p =>
    exact .serve fun _ _ => by
      (repeat' split) <;> [exact .refuse; exact .refuse; exact .refuse; exact .of_eq]
  | lockExclusion p => exact .serve fun _ _ => by split <;> [exact .refuse; exact .of_eq]
  | boardHello bd => exact .takeBoardFrame fun _ _ => .of_eq
  | report bd => exact .takeBoardFrame fun f u => u.reportFrame_staysHalted bd f
  | stopConfirm bd => exact .takeBoardFrame fun _ _ => .of_eq
  | stopTimerExpiry g => exact .expiry fun _ => .of_eq
  | lineDownTimerExpiry bd => exact .expiry fun _ => .of_eq
  | retryTimerExpiry g => exact .unlessReset fun _ => by split <;> exact .of_eq
  | chainTransferComplete readback =>
    exact .unlessReset fun u => by
      (repeat' split) <;> [exact u.transferComplete_staysHalted readback; exact .of_eq; exact .refl]
  | settleTimerExpiry => exact .expiry fun _ => .of_eq
  | recallExpiry i => exact execRecallExpiry_halts i
  | boostExpiry n => exact execBoostExpiry_halts n
  | pauseTimerExpiry => exact .expiry fun _ => .of_eq
  | autoOffExpiry => exact .expiry State.leaveForStandby_staysHalted
  | startTimerExpiry => exact execStartTimerExpiry_halts
  | suspendTimerExpiry => exact .expiry fun u => u.abortSurvey_staysHalted _
  | storeComplete => exact .unlessReset fun _ => by split <;> exact .of_eq
  | byteReceived l byte =>
    exact .unlessReset fun _ => by
      refine (State.takeByte_staysHalted _ l byte).after ?_
      split <;> exact .of_eq

/-- R144, R146: a command outside a reset begins one, or leaves the device in HALT with its cause. -/
theorem Halted.exec_stands {c : Instr} {s t : State} (h : Halted s) (hr : s.resetting = none)
    (hx : exec c s = .next t) :
    t.resetting.isSome = true ∨ (t.ctl.mode = .halt ∧ t.ctl.haltCause = s.ctl.haltCause) := by
  obtain ⟨u, hu, hstays⟩ := exec_halts c hr
  cases hu.symm.trans hx
  refine hstays.imp_right fun hstays => ?_
  obtain ⟨hctl, -⟩ := hstays h
  exact ⟨hctl ▸ h.mode, by rw [hctl]⟩

/-- Settles O59: in HALT the verdicts of R140 and R151 refuse, no survey and no START timer run, a further HALT is not
acted on, and so nothing but a reset moves the Mode Controller. -/
theorem haltLeftOnlyByReset : Obligations.HaltLeftOnlyByReset := by
  intro s t hs hr h hm
  have hhalted := Halted.of_modesAgree hs hm
  obtain ⟨c, rest, -, hx⟩ | ⟨c, -, -, hx⟩ | ⟨-, -, rfl⟩ := step_cases h
  · have hqueue : Halted (s.withPending rest) := hhalted.of_ctl rfl hhalted.survey
    exact hqueue.exec_stands hr hx
  · exact hhalted.exec_stands hr hx
  · exact .inr ⟨hm, rfl⟩

end Sys2Proof.Machine
end

section
/-! PROOFS. The expiry of the START timer (R138), by what the loss of a board does. -/

namespace Sys2Proof.Machine

open Sys2Proof.Safety

section
variable (s : State) (bd q : Board)

/-! ### The loss of a board (R110, R155) -/

/-- R110: a board becomes LOST, before a survey under way is aborted for it. -/
def State.dropBoard (bd : Board) (s : State) : State :=
  ((((((s.modLink (boardLinkId bd) fun r => { r with state := .lost, presence := none, queue := [] }).modBoard bd
    fun r => { r with held := none }).judgeLine bd).mapGens fun g x => if boardOf g = bd then x.lose else x).clearHalf
    bd).modPhase (boardPhase bd) PhaseRec.loseVoltage).capture .linkLost

theorem State.boardLost_eq : s.boardLost bd =
    if (s.dropBoard bd).store.settings.showroom then s.dropBoard bd
    else (s.dropBoard bd).abortSurvey .abortedBoard := rfl

theorem State.dropBoard_ctl : (s.dropBoard bd).ctl = s.ctl := by simp [State.dropBoard]

theorem State.dropBoard_links : (s.dropBoard bd).links =
    linksWith (s.modLink (boardLinkId bd) fun r => { r with state := .lost, presence := none, queue := [] })
      [.linkLost] := by
  simp [State.dropBoard, State.capture_eq, linksWith]

theorem State.dropBoard_partner (p : Partner) :
    (s.dropBoard bd).partner p = enterAll [.linkLost] (s.partner p) := by
  cases p <;> cases bd <;> simp only [State.partner, State.dropBoard_links] <;> rfl

theorem State.dropBoard_boardLink : (s.dropBoard bd).boardLink q = if q = bd then .lost else s.boardLink q := by
  cases q <;> cases bd <;> simp only [State.boardLink, State.link, boardLinkId, State.dropBoard_links] <;> rfl

/-- R155: a survey that is aborted moves no board's link, and of the Mode Controller the mode alone. -/
theorem State.abortSurvey_boardLink (o : SurveyOutcome) : (s.abortSurvey o).boardLink q = s.boardLink q := by
  unfold State.abortSurvey; split <;> cases q <;> rfl

theorem State.abortSurvey_ctl (o : SurveyOutcome) :
    { (s.abortSurvey o).ctl with mode := .standby } = { s.ctl with mode := .standby } := by
  unfold State.abortSurvey; split <;> rfl

theorem State.abortSurvey_sets (o : SurveyOutcome) : SetsKept s (s.abortSurvey o) := by
  unfold State.abortSurvey
  split
  · exact .of_links rfl
  · exact .of_entered [.survey, .modeChanged] fun p => by cases p <;> rfl

theorem State.boardLost_boardLink : (s.boardLost bd).boardLink q = if q = bd then .lost else s.boardLink q := by
  rw [State.boardLost_eq]; split <;> simp only [State.abortSurvey_boardLink, State.dropBoard_boardLink]

theorem State.boardLost_ctl : { (s.boardLost bd).ctl with mode := .standby } = { s.ctl with mode := .standby } := by
  rw [State.boardLost_eq]; split <;> simp only [State.abortSurvey_ctl, State.dropBoard_ctl]

theorem State.boardLost_sets : SetsKept s (s.boardLost bd) := by
  have hdrop : SetsKept s (s.dropBoard bd) := .of_entered [.linkLost] (s.dropBoard_partner bd)
  rw [State.boardLost_eq]; split <;> [exact hdrop; exact hdrop.trans (State.abortSurvey_sets _ _)]

/-- R166: LINK_LOST is always captured. -/
theorem State.boardLost_captured (p : Partner) : holds ((s.boardLost bd).partner p).captured .linkLost = true := by
  have hdrop : holds ((s.dropBoard bd).partner p).captured .linkLost = true := by
    rw [State.dropBoard_partner, holds_enterAll]; simp [alwaysCaptured]
  rw [State.boardLost_eq]; split <;> [exact hdrop; exact (State.abortSurvey_sets _ _).captured p _ hdrop]

/-! ### The boards that are still ABSENT (R138) -/

theorem State.loseAbsent_boardLink :
    (s.loseAbsent bd).boardLink q = if q = bd ∧ s.boardLink q = .absent then .lost else s.boardLink q := by
  unfold State.loseAbsent
  split
  · rw [State.boardLost_boardLink]; by_cases h : q = bd <;> simp_all
  · by_cases h : q = bd <;> simp_all

theorem State.loseAbsent_ctl : { (s.loseAbsent bd).ctl with mode := .standby } = { s.ctl with mode := .standby } := by
  unfold State.loseAbsent; split <;> [exact s.boardLost_ctl bd; rfl]

theorem State.loseAbsent_sets : SetsKept s (s.loseAbsent bd) := by
  unfold State.loseAbsent; split <;> [exact s.boardLost_sets bd; exact .of_links rfl]

theorem State.loseAbsent_captured (h : s.boardLink bd = .absent) (p : Partner) :
    holds ((s.loseAbsent bd).partner p).captured .linkLost = true := by
  rw [State.loseAbsent, if_pos h]; exact s.boardLost_captured bd p

/-! ### The expiry (R138) -/

theorem State.setMode_sets (m : Mode) : SetsKept s (s.setMode m) :=
  .of_entered [.modeChanged] fun p => by cases p <;> rfl

theorem State.startExpired_ctl : s.startExpired.ctl = { s.ctl with mode := .standby, startTimer := none } := by
  rw [State.startExpired_eq]
  exact ((State.loseAbsent_ctl _ .b).trans (State.loseAbsent_ctl _ .a))

theorem State.stopStartTimer_boardLink : s.stopStartTimer.boardLink q = s.boardLink q := State.boardLink_congr rfl q

theorem State.startExpired_boardLink :
    s.startExpired.boardLink q = if s.boardLink q = .absent then .lost else s.boardLink q := by
  have hends : s.startExpired.boardLink q = ((s.stopStartTimer.loseAbsent .a).loseAbsent .b).boardLink q := by
    cases q <;> rfl
  rw [hends, State.loseAbsent_boardLink, State.loseAbsent_boardLink, State.stopStartTimer_boardLink]
  cases q <;> simp

theorem State.startExpired_captured (h : s.boardLink bd = .absent) (p : Partner) :
    holds (s.startExpired.partner p).captured .linkLost = true := by
  rw [← State.stopStartTimer_boardLink] at h
  rw [State.startExpired_eq]
  refine (State.setMode_sets _ _).captured p _ ?_
  cases bd with
  | a => exact (State.loseAbsent_sets _ .b).captured p _ (State.loseAbsent_captured _ .a h p)
  | b => exact State.loseAbsent_captured _ .b (by rw [State.loseAbsent_boardLink]; simpa using h) p

end

/-- Settles O27. -/
theorem startTimerExpires : Obligations.StartTimerExpires := by
  intro s d hr hd
  have hlink : ∀ bd, (s.elapseTo d).boardLink bd = s.boardLink bd := fun bd => State.boardLink_congr (by simp) bd
  refine ⟨_, exec_of_expiry (g := State.startExpired) hr hd fun _ => rfl, ?_, fun bd => ?_, fun bd hb p => ?_⟩
  · rw [State.startExpired_ctl, State.elapseTo_ctl]
  · rw [State.startExpired_boardLink, hlink]
  · exact State.startExpired_captured _ bd ((hlink bd).trans hb) p

end Sys2Proof.Machine
end

section
/-! PROOFS. The taking of a Soft Reset (R147, R177). -/

namespace Sys2Proof.Machine

open Sys2Proof.Safety

/-- R177: a store cut off leaves an image that does not match its CRC. -/
theorem Store.cutOff_passes {st : Store} (h : st.storing.isSome = true) : st.cutOff.passes = false := by
  obtain ⟨c, hc⟩ := Option.isSome_iff_exists.1 h
  have hcrc : crc16 c.contents.bytes ≠ ~~~crc16 c.contents.bytes := fun he => by
    have hbit := congrArg (fun w => w.getLsbD 0) he
    simp at hbit
  simp [Store.cutOff, hc, StoredImage.passes, hcrc]

theorem Store.cutOff_of_none {st : Store} (h : st.storing = none) : st.cutOff = st.image := by simp [Store.cutOff, h]

/-- R147: on a link in use the response goes behind all that has been produced, and both queues are emptied. -/
theorem State.takeSoftReset_panel {s : State} (hup : s.links.panel.link.state.up = true) (tag : Byte) :
    s.takeSoftReset .panel tag = { s with
      softReset := true
      store := { s.store with storing := none, image := s.store.cutOff }
      links := { s.links with
        panel := { s.links.panel with
          link := { s.links.panel.link with queue := [] }
          produced := s.links.panel.produced ++ [.resetResponse tag] }
        remote := { s.links.remote with link := { s.links.remote.link with queue := [] } } } } := by
  simp only [State.takeSoftReset, State.modPartner, State.partner, produceAt, hup, if_true, List.take_length,
    List.drop_length]

/-- Settles O48: the panel may ask for a Soft Reset in every mode, so that the request is accepted and taken. -/
theorem softResetIsTaken : Obligations.SoftResetIsTaken := by
  rintro s f rest ⟨hready, hkind, -, hlength⟩ hup
  refine ⟨s.store.cutOff, Store.cutOff_of_none, Store.cutOff_passes, ?_⟩
  have haccept : ∀ t : State, judgeRequest .panel .softReset (fun _ u => accept u) f.payload t = accept t := fun t => by
    simp [judgeRequest, hlength]
  have htaken : exec (.softReset .panel) s = .next ((s.dequeue .panel rest).takeSoftReset .panel f.tag) := by
    show execSoftReset .panel s = _
    rw [execSoftReset, State.unlessReset_none _ hready.1,
      State.takePartnerFrame_ready hready (want := fun k => k = requestCode .softReset) (by simp [hkind])]
    simp only [haccept]
    rfl
  rw [htaken, State.takeSoftReset_panel (s := s.dequeue .panel rest) hup]
  rfl

end Sys2Proof.Machine
end

section
/-! PROOFS. State.reset is what a POWER_ON reset ends in (R147, R174), and meets the laws. -/

namespace Sys2Proof.Machine

open Sys2Proof.Safety

/-! ### The CRC-16 of a new part's image (R174, log 8) -/

/-- R174: the CRC-16 of a list of bytes, begun at a given remainder. -/
def crc16From (c : BitVec 16) (bytes : List Byte) : BitVec 16 :=
  bytes.foldl (fun c x => Nat.repeat crc16Bit 8 (c ^^^ (x.setWidth 16).shiftLeft 8)) c

theorem crc16_append (xs ys : List Byte) : crc16 (xs ++ ys) = crc16From (crc16 xs) ys := List.foldl_append

theorem crc16From_append (c : BitVec 16) (xs ys : List Byte) :
    crc16From c (xs ++ ys) = crc16From (crc16From c xs) ys := List.foldl_append

/-- R147: a new part in its POWER_ON reset. -/
def State.poweredOn : State := State.reset.toResetValues.withReset { cause := .powerOn, halted := false }

/-- The CRC is computed in three pieces: the settings with the level table, and the baselines in two halves. -/
theorem State.poweredOn_image_fails : State.poweredOn.store.image.passes = false := by
  have hsettings : crc16 ((Settings.default.values ++ Settings.default.levelTable).flatMap be2) = 0x18A9#16 := by
    decide +kernel
  have hhalf : crc16From 0x18A9#16 ((List.replicate 24 64).flatMap be2) = 0xD0EF#16 := by decide +kernel
  have hcrc : crc16 State.poweredOn.store.image.contents.bytes ≠ State.poweredOn.store.image.crc := by
    show crc16 ((Settings.default.values ++ Settings.default.levelTable ++
      (List.replicate 24 64 ++ List.replicate 24 64)).flatMap be2) ≠ 0
    rw [List.flatMap_append, crc16_append, hsettings, List.flatMap_append, crc16From_append, hhalf]
    decide +kernel
  simp [StoredImage.passes, hcrc]

/-- R147, R174: with the image refused, the reset ends with the defaults loaded. -/
theorem State.poweredOn_endReset :
    State.poweredOn.endReset { cause := .powerOn, halted := false } = State.reset := by
  unfold State.endReset State.load
  rw [StoredImage.loaded, State.poweredOn_image_fails]
  decide +kernel

/-! ### The laws at State.reset -/

theorem State.reset_modesAgree : ModesAgree State.reset := by unfold ModesAgree; decide +kernel

theorem State.reset_linesFollow : LinesFollow State.reset := by unfold LinesFollow; decide +kernel

/-- Table 3-1, R67: there is no pan, no recall entry and no demand. -/
theorem State.reset_tableSound : TableSound State.reset :=
  State.toResetValues_table (s := State.reset) ⟨.powerOn, false⟩

theorem State.reset_restsOutsideActive : RestsOutsideActive State.reset := by unfold RestsOutsideActive; decide +kernel

theorem State.reset_budgetsKept : BudgetsKept State.reset := by unfold BudgetsKept; decide +kernel

theorem State.reset_settingsFit : SettingsFit State.reset := by unfold SettingsFit; decide +kernel

theorem State.reset_routesSound : RoutesSound State.reset := by unfold RoutesSound ImageSound; decide +kernel

theorem State.reset_residuesKept : ResiduesKept State.reset := by unfold ResiduesKept; decide +kernel

theorem State.reset_queuesBounded : QueuesBounded State.reset := by unfold QueuesBounded; decide +kernel

/-- R100, R103: both lines are down and not settled, no generator runs or has a stop pending, and no operation is under
way. -/
theorem State.reset_chainQuiet : ChainQuiet State.reset := by
  refine ⟨fun bd => ?_, fun bd => ?_, ?_, ?_, ?_⟩
  · cases bd <;> decide +kernel
  · cases bd <;> decide +kernel
  all_goals decide +kernel

/-- Settles O6. -/
theorem resetStateMeetsTheLaws : Obligations.ResetStateMeetsTheLaws :=
  ⟨congrArg Host.Outcome.next State.poweredOn_endReset, State.reset_modesAgree, State.reset_linesFollow,
    State.reset_restsOutsideActive, State.reset_tableSound, State.reset_budgetsKept, State.reset_settingsFit,
    State.reset_routesSound, State.reset_residuesKept, State.reset_queuesBounded, State.reset_chainQuiet⟩

end Sys2Proof.Machine
end
